-- ==== Sys2Proof/Word.lean ====
section
/-! DEFINITION. The word types of the 2440: bytes, wrapping numbers, positions and masks.
A quantity is a bit vector where the manual adds it with wrapping, masks it or sends it as a word. -/

namespace Sys2Proof

/-- One byte of a frame or of the configuration record (R196). -/
abbrev Byte := BitVec 8

/-- A segment tag, 0 to 255, wrapping (R1). -/
abbrev Tag := BitVec 8

/-- A group epoch or a barrier number, 0 to 255, wrapping (R1). -/
abbrev Epoch := BitVec 8

/-- A link cycle number, 0 to 65,535, wrapping (R1). -/
abbrev Cycle := BitVec 16

/-- A signed 32-bit position in steps, two's complement, wrapping (R58, R157). -/
abbrev Position := BitVec 32

/-- A set of station addresses, bit k for address k (R5). -/
abbrev Mask := BitVec 32

end Sys2Proof
end

