-- ==== Sys2Proof/Syntax.lean ====
section
/-! DEFINITION. The commands of the block: one constructor for each row of spec/opcode_table.json. -/

namespace Sys2Proof

/-- A side of the axis: the direction in which the commanded position increases, or the other
(00 section 4.4). It names a direction, a limit (LIM+ or LIM−) and the direction of a homing. -/
inductive Side where
  | pos
  | neg
  deriving DecidableEq, Repr

/-- The commands: what the outside can bring about at the station, each one happening.

A message command carries the address of the station whose frame carried the message (R172), the
destination byte of its header and its body (R171, R197). -/
inductive Instr where
  /-- POWER_ON (R190). -/
  | powerOn
  /-- PIN_RESET (R190): the RESET pin is driven. -/
  | pinReset
  /-- RESET_PIN_RELEASE (R190). -/
  | resetPinRelease
  /-- CONFIG_LOAD_DONE (R191): the bytes read, the straps ADDR4..ADDR0 (a bit is 1 when high) and
  the levels of the seven inputs in the bit order of the polarity byte (13.7), 1 when high. -/
  | configLoadDone (bytes : List Byte) (straps : BitVec 5) (levels : BitVec 7)
  /-- CONFIG_READ_TIMEOUT (R191). -/
  | configReadTimeout
  /-- MARK_HEARD (R165, R167): the number carried and the check byte heard. -/
  | markHeard (number : Cycle) (check : Byte)
  /-- MARK_TIMER_EXPIRY (R166). -/
  | markTimerExpiry
  /-- SILENCE_TIMER_EXPIRY (R169). -/
  | silenceTimerExpiry
  /-- PEER_LOST (R176) of the entry of an address. -/
  | peerLost (address : Nat)
  /-- DWELL_END (R38). -/
  | dwellEnd
  /-- BARRIER_START (R99). -/
  | barrierStart
  /-- BARRIER_TIMEOUT (R100). -/
  | barrierTimeout
  /-- SETTLE_TIMEOUT (R160). -/
  | settleTimeout
  /-- FOLLOW_LOST (R147). -/
  | followLost
  /-- FRAME_RECEIVED (R163, R170): whether it was heard during the station's own transmission, when
  it began in nanoseconds after the start of the last mark, and its bytes. -/
  | frameReceived (ownTransmission : Bool) (sinceMark : Nat) (bytes : List Byte)
  /-- STATUS (R177). -/
  | status (sender : Nat) (dest : Byte) (body : List Byte)
  /-- SEGMENT (R14). -/
  | segment (sender : Nat) (dest : Byte) (body : List Byte)
  /-- FLUSH (R20). -/
  | flush (sender : Nat) (dest : Byte) (body : List Byte)
  /-- STOP (R45). -/
  | stop (sender : Nat) (dest : Byte) (body : List Byte)
  /-- CONTINUE (R50). -/
  | resume (sender : Nat) (dest : Byte) (body : List Byte)
  /-- SET_POSITION (R51). -/
  | setPosition (sender : Nat) (dest : Byte) (body : List Byte)
  /-- HALT (R117). -/
  | halt (sender : Nat) (dest : Byte) (body : List Byte)
  /-- RELEASE (R121). -/
  | release (sender : Nat) (dest : Byte) (body : List Byte)
  /-- CLEAR_FAULT (R185). -/
  | clearFault (sender : Nat) (dest : Byte) (body : List Byte)
  /-- QUERY (R178). -/
  | query (sender : Nat) (dest : Byte) (body : List Byte)
  /-- STATION_RESET (R195). -/
  | stationReset (sender : Nat) (dest : Byte) (body : List Byte)
  /-- SLOT_START (R173). -/
  | slotStart
  /-- LISTEN_BACK (R174): the own frame as heard, or nothing when no frame was heard. -/
  | listenBack (heard : Option (List Byte))
  /-- STEP_DUE (R57). -/
  | stepDue
  /-- LIMIT_INPUT_CHANGE (R151): the limit of a side takes a conditioned state (ACTIVE is true). -/
  | limitInputChange (side : Side) (active : Bool)
  /-- HOME_INPUT_CHANGE (R130): HOME takes a conditioned state. -/
  | homeInputChange (active : Bool)
  /-- INDEX_EDGE (R132, R150): an edge of ENC-Z, the index edge when it becomes ACTIVE. -/
  | indexEdge
  /-- DRV_FLT_CHANGE (R152): DRV-FLT takes a conditioned state. -/
  | drvFltChange (active : Bool)
  /-- ENCODER_CHANGE (R155): the new pair (A, B) of conditioned states. -/
  | encoderChange (a b : Bool)
  /-- DRV_CLR_PULSE_END (R153). -/
  | drvClrPulseEnd
  /-- HOLDOFF_END (R154). -/
  | holdoffEnd
  deriving DecidableEq, Repr

end Sys2Proof
end

