-- ==== Sys2Proof/Decode.lean ====
section
/-! DEFINITION. The decoder over the rows of spec/opcode_table.json that give bits. The block has no
instruction words: every row of the table has an empty list of fields, so no word spells a command.
The messages a frame carries are decoded in Machine/Layout.lean. -/

namespace Sys2Proof

/-- The command that a word of `_nbits` bits spells by the table's bits: none, because no row of the
table gives bits. -/
def decodeTableWord (_nbits _w : Nat) : Option Instr := none

end Sys2Proof
end

