-- ==== Sys2Proof/Machine/State.lean ====
section
/-! DEFINITION. The state of a 2440 station, block by block as 00 section 2 divides it, as plain data;
its value after reset; and the two reason types. -/

namespace Sys2Proof.Machine

/-! ### Enumerations -/

/-- The load state of the Configuration Loader (R190, R191). -/
inductive LoadState where
  | loading | loaded | failed
  deriving DecidableEq, Repr

/-- The encoder mode (R155). -/
inductive EncoderMode where
  | off | quad1 | quad2 | quad4 | upDown
  deriving DecidableEq, Repr

/-- The link state (R164). -/
inductive LinkState where
  | offline | listening | joined | silent
  deriving DecidableEq, Repr

/-- Presence of an address in the Peer Table (R175). -/
inductive Presence where
  | unknown | present | lost
  deriving DecidableEq, Repr

/-- Segment kinds (R3). -/
inductive SegKind where
  | move | goto | home | dwell | follow
  deriving DecidableEq, Repr

/-- Station states (R25). -/
inductive Station where
  | offline | idle | held | armed | running | stopping | settling | faulted
  deriving DecidableEq, Repr

/-- Dispositions of a stop (R26). -/
inductive Disposition where
  | abort | pause | preempt | halt
  deriving DecidableEq, Repr

/-- Results of a finished record (R36). -/
inductive Result where
  | done | aborted | halted | faulted
  deriving DecidableEq, Repr

/-- Where a residual comes from (R74). -/
inductive Origin where
  | preempt | pause | halt
  deriving DecidableEq, Repr

/-- Fault kinds (R181). -/
inductive FaultKind where
  | limitPos | limitNeg | driveFault | followingError | encoderError | settleTimeout
  | homingFailed | followOverrun | followLost | barrierTimeout | barrierLate | barrierMismatch
  | cycleSlip | notHomed | range | addressConflict
  deriving DecidableEq, Repr

/-- The kinds of message that can be refused (R16). -/
inductive MsgKind where
  | segment | flush | stop | resume | setPosition | halt | release | clearFault | query
  | stationReset
  deriving DecidableEq, Repr

/-- Refusal reasons (R16). -/
inductive Reason where
  | tagGap | badField | queueFull | stackFull | armed | notSuspendable | state | causePresent
  deriving DecidableEq, Repr

/-- The condition of a group (R109). -/
inductive Condition where
  | clear | halted
  deriving DecidableEq, Repr

/-- The cause of the last change of a group entry (R109). -/
inductive Cause where
  | none | fault | peerLost | commanded | reset | relayed | released
  deriving DecidableEq, Repr

/-- The phase of the Step Generator (R54). -/
inductive GenPhase where
  | standstill | accelerating | cruising | decelerating | braking | flat
  deriving DecidableEq, Repr

/-- The kind of a run (R54); no run is `Gen.run = none`. -/
inductive RunKind where
  | counted | openRun | flat
  deriving DecidableEq, Repr

/-- The phase of a barrier record (R89). -/
inductive BarrierPhase where
  | armed | started
  deriving DecidableEq, Repr

/-- The phase of the Homing Controller (R127). -/
inductive HomingPhase where
  | none | seek | reverseSeek | clear | approach | index
  deriving DecidableEq, Repr

/-- The leg of a homing phase (R127). -/
inductive Leg where
  | moving | ending
  deriving DecidableEq, Repr

/-- The phase of the Follow Unit (R139). -/
inductive FollowPhase where
  | none | tracking | ceased
  deriving DecidableEq, Repr

/-- The clear state of the Drive Interface (R153). -/
inductive ClearState where
  | none | pulse | hold
  deriving DecidableEq, Repr

/-- Query and report kinds (R178). -/
inductive QueryKind where
  | queue | stack | groups | peers | faults | counters
  deriving DecidableEq, Repr

/-! ### Segments and residuals -/

/-- A rate profile: start rate, top rate, acceleration, deceleration (R4). -/
structure Profile where
  fs : Nat
  ft : Nat
  a : Nat
  d : Nat
  deriving DecidableEq, Repr

/-- The barrier block of a segment (R5). -/
structure BarrierBlock where
  number : Epoch
  mask : Mask
  waitLimit : Nat
  deriving DecidableEq, Repr

/-- The body of a segment, by kind (R6). -/
inductive Body where
  | move (count : Int)
  | goto (target : Position)
  | home (dir : Side) (indexCount : Nat) (offset : Position) (travelBound : Option Nat)
  | dwell (cycles : Nat)
  | follow (leader : Nat) (num : Int) (den : Nat) (countBound : Option Nat)
  deriving DecidableEq, Repr

/-- A queue entry: a segment record with its profile completed, and the BOUND mark (R3, R8). -/
structure QueueEntry where
  tag : Tag
  insert : Bool
  chain : Bool
  group : Nat
  profile : Profile
  barrier : Option BarrierBlock
  body : Body
  bound : Bool
  deriving DecidableEq, Repr

/-- The remaining part of a residual; it also gives the residual's kind (R74, R76). -/
inductive Remaining where
  | move (count : Int)
  | goto (target : Position)
  | dwell (cycles : Nat)
  deriving DecidableEq, Repr

/-- A residual record (R74). -/
structure Residual where
  tag : Tag
  group : Nat
  barrier : Option BarrierBlock
  profile : Profile
  origin : Origin
  remaining : Remaining
  deriving DecidableEq, Repr

/-- The work of an active record: a segment record or a residual (R26). -/
inductive Work where
  | segment (e : QueueEntry)
  | residual (r : Residual)
  deriving DecidableEq, Repr

/-- The active record (R26). -/
structure Active where
  work : Work
  disposition : Option Disposition
  faultEnded : Bool
  reserved : Bool
  bound : Option QueueEntry
  dwellEnd : Option Cycle
  deriving DecidableEq, Repr

/-! ### The blocks -/

/-- The configuration record in use (R192); the checksum is judged at the load and not kept. -/
structure Settings where
  addressFromField : Bool
  addressField : Nat
  span : Nat
  slotUnits : Nat
  lead : Nat
  lossLimit : Nat
  defaultProfile : Profile
  encoderMode : EncoderMode
  divisor : Nat
  followingWindow : Nat
  settleWindow : Nat
  settleTimeout : Nat
  clearance : Nat
  clrEnabled : Bool
  clrLength : Nat
  holdoff : Nat
  catchUp : Nat
  polarities : BitVec 7
  reversed : Bool
  deriving DecidableEq, Repr

/-- The Configuration Loader, with the RESET line and the station address (R190 to R193). -/
structure Loader where
  load : LoadState
  resetPin : Bool
  settings : Settings
  address : Nat
  deriving DecidableEq, Repr

/-- The pending query (R178). -/
structure PendingQuery where
  kind : QueryKind
  clear : Bool
  requester : Nat
  deriving DecidableEq, Repr

/-- The Link Controller but for the Peer Table (chapter 10). A timer is `none` when it does not run and
holds the length it was last started with, in microseconds, when it does (log 2). -/
structure Link where
  state : LinkState
  cycle : Cycle
  lastMark : Option Cycle
  slotPasses : Bool
  markTimer : Option Nat
  silenceTimer : Option Nat
  slotTiming : Bool
  sending : Option (List Byte)
  markSent : Option (List Byte)
  listenFailures : Nat
  query : Option PendingQuery
  crcErrors : Nat
  slotViolations : Nat
  cycleSlips : Nat
  droppedQueries : Nat
  deriving DecidableEq, Repr

/-- A barrier advertisement as carried in STATUS and kept as received (R91, R198). -/
structure Advertisement where
  present : Bool
  started : Bool
  group : Byte
  number : Epoch
  epoch : Epoch
  since : Cycle
  mask : Mask
  deriving DecidableEq, Repr

/-- What the Peer Table keeps of a STATUS (R175): position, advertisement and group vector. -/
structure PeerStatus where
  position : Position
  adv : Advertisement
  epochs : List Epoch
  haltedMask : BitVec 16
  deriving DecidableEq, Repr

/-- One entry of the Peer Table (R175). -/
structure PeerEntry where
  presence : Presence
  miss : Nat
  heard : Bool
  status : Option PeerStatus
  deriving DecidableEq, Repr

/-- The last-refusal record (R16); the count wraps at 8 bits. -/
structure LastRefusal where
  kind : Option MsgKind
  tag : Option Tag
  reason : Option Reason
  count : BitVec 8
  deriving DecidableEq, Repr

/-- The Segment Queue (chapter 1). -/
structure SegQueue where
  entries : List QueueEntry
  expected : Tag
  fresh : Bool
  refusal : LastRefusal
  deriving DecidableEq, Repr

/-- The Motion Sequencer but for the Suspension Stack (chapter 2). -/
structure Sequencer where
  station : Station
  active : Option Active
  paused : Bool
  lastFinished : Option (Tag × Result)
  chainBreaks : Nat
  homed : Bool
  deriving DecidableEq, Repr

/-- The Suspension Stack, top first (R73). The reserved place is held in the active record (R26). -/
structure Suspension where
  residuals : List Residual
  overflow : Bool
  overflowCount : Nat
  deriving DecidableEq, Repr

/-- The state of one run (R54), with the rate fixed for its next step (R57). -/
structure Run where
  kind : RunKind
  count : Option Nat
  emitted : Nat
  profile : Profile
  endRate : Nat
  baseRate : Nat
  baseSteps : Nat
  commitWatch : Bool
  nextRate : Nat
  deriving DecidableEq, Repr

/-- The Step Generator (R54), with the level of DIR (R59; high is true). -/
structure Gen where
  phase : GenPhase
  rate : Nat
  dir : Side
  dirHigh : Bool
  run : Option Run
  position : Position
  deriving DecidableEq, Repr

/-- The barrier record (R89). -/
structure BarrierRec where
  group : Nat
  number : Epoch
  epoch : Epoch
  mask : Mask
  waitLimit : Nat
  since : Cycle
  phase : BarrierPhase
  start : Option Cycle
  waitCount : Nat
  confirmed : Mask
  deriving DecidableEq, Repr

/-- One entry of the group table (R109). -/
structure GroupEntry where
  epoch : Epoch
  condition : Condition
  synchronised : Bool
  cause : Cause
  originator : Option Nat
  changedAt : Cycle
  deriving DecidableEq, Repr

/-- The Homing Controller (R127). -/
structure Homing where
  phase : HomingPhase
  leg : Leg
  dir : Side
  homeSeen : Bool
  indexRemaining : Nat
  travelUsed : Nat
  travelLimit : Nat
  offset : Position
  deriving DecidableEq, Repr

/-- The Follow Unit (R139). `turning` is the number of steps taken since the turn, when set. -/
structure Follow where
  phase : FollowPhase
  leader : Nat
  num : Int
  den : Nat
  reference : Position
  remainder : Int
  owed : Int
  followed : Nat
  countBound : Option Nat
  silence : Nat
  lastDir : Option Side
  turning : Option Nat
  deriving DecidableEq, Repr

/-- The Drive Interface (chapter 9): conditioned inputs (ACTIVE is true), clear state and timers. The
pulse timer is in units of 10 µs, the holdoff timer in ms. -/
structure Drive where
  limPos : Bool
  limNeg : Bool
  home : Bool
  drvFlt : Bool
  encA : Bool
  encB : Bool
  encZ : Bool
  clear : ClearState
  pulseTimer : Option Nat
  holdoffTimer : Option Nat
  deriving DecidableEq, Repr

/-- The Encoder Monitor (chapter 9). `settle` holds the settle count while the settle check runs. -/
structure Encoder where
  position : Position
  remainder : Int
  pair : Option (Bool × Bool)
  settle : Option Nat
  deriving DecidableEq, Repr

/-- A fault entry (R182). -/
structure FaultEntry where
  kind : FaultKind
  cycle : Cycle
  tag : Option Tag
  position : Position
  deriving DecidableEq, Repr

/-- The Fault Log (R182). -/
structure FaultLog where
  current : Option FaultKind
  first : Option FaultEntry
  last : Option FaultEntry
  count : Nat
  kinds : List FaultKind
  deriving DecidableEq, Repr

/-- The state of the station and the queue of commands that wait. `openCount`, `restCount`
and `indexCount` are the model's own counters behind its free values: the reports assembled so far
(log 16), the homings that came to rest before a settle check (log 32) and the idle steps that found
ENC-Z ACTIVE (log 11). -/
structure State where
  loader : Loader
  link : Link
  peers : List PeerEntry
  queue : SegQueue
  seq : Sequencer
  stack : Suspension
  gen : Gen
  barrier : Option BarrierRec
  groups : List GroupEntry
  homing : Homing
  follow : Follow
  drive : Drive
  encoder : Encoder
  faults : FaultLog
  openCount : Nat
  restCount : Nat
  indexCount : Nat
  pending : List Instr
  deriving DecidableEq, Repr

/-! ### Reset values -/

/-- DESIGN CHOICE (log 9): the settings before a record is in use. -/
def Settings.unloaded : Settings :=
  { addressFromField := false, addressField := 0, span := 0, slotUnits := 0, lead := 0,
    lossLimit := 0, defaultProfile := ⟨0, 0, 0, 0⟩, encoderMode := .off, divisor := 0,
    followingWindow := 0, settleWindow := 0, settleTimeout := 0, clearance := 0,
    clrEnabled := false, clrLength := 0, holdoff := 0, catchUp := 0, polarities := 0,
    reversed := false }

/-- The loader at the beginning of a load (R190). -/
def Loader.reset : Loader :=
  { load := .loading, resetPin := false, settings := .unloaded, address := 0 }

/-- R164, R169, R174, R178, R180. -/
def Link.reset : Link :=
  { state := .offline, cycle := 0, lastMark := none, slotPasses := false, markTimer := none,
    silenceTimer := none, slotTiming := false, sending := none, markSent := none,
    listenFailures := 0, query := none, crcErrors := 0, slotViolations := 0, cycleSlips := 0,
    droppedQueries := 0 }

/-- R175. -/
def PeerEntry.reset : PeerEntry :=
  { presence := .unknown, miss := 0, heard := false, status := none }

/-- R16. -/
def LastRefusal.reset : LastRefusal :=
  { kind := none, tag := none, reason := none, count := 0 }

/-- R23. -/
def SegQueue.reset : SegQueue :=
  { entries := [], expected := 0, fresh := true, refusal := .reset }

/-- R27. -/
def Sequencer.reset : Sequencer :=
  { station := .offline, active := none, paused := false, lastFinished := none, chainBreaks := 0,
    homed := false }

/-- R88. -/
def Suspension.reset : Suspension :=
  { residuals := [], overflow := false, overflowCount := 0 }

/-- R72, with DIR low until a record has been loaded (R59, R190). R72 gives the profile and the end rate
no value: with no run there are none (DESIGN CHOICE, log 35). -/
def Gen.reset : Gen :=
  { phase := .standstill, rate := 0, dir := .pos, dirHigh := false, run := none, position := 0 }

/-- R109, R126. -/
def GroupEntry.reset : GroupEntry :=
  { epoch := 0, condition := .clear, synchronised := false, cause := .none, originator := none,
    changedAt := 0 }

/-- R127: phase NONE. DESIGN CHOICE (log 9): the other items, which carry no meaning yet. -/
def Homing.reset : Homing :=
  { phase := .none, leg := .moving, dir := .pos, homeSeen := false, indexRemaining := 0,
    travelUsed := 0, travelLimit := 0, offset := 0 }

/-- R139: phase NONE. DESIGN CHOICE (log 9): the other items, which carry no meaning yet. -/
def Follow.reset : Follow :=
  { phase := .none, leader := 0, num := 0, den := 0, reference := 0, remainder := 0, owed := 0,
    followed := 0, countBound := none, silence := 0, lastDir := none, turning := none }

/-- R161. -/
def Drive.reset : Drive :=
  { limPos := false, limNeg := false, home := false, drvFlt := false, encA := false, encB := false,
    encZ := false, clear := .none, pulseTimer := none, holdoffTimer := none }

/-- R162. -/
def Encoder.reset : Encoder :=
  { position := 0, remainder := 0, pair := none, settle := none }

/-- R182. -/
def FaultLog.reset : FaultLog :=
  { current := none, first := none, last := none, count := 0, kinds := [] }

/-- The station right after power has been applied, its configuration load under way (R190), with the
RESET pin not driven (log 10). -/
def State.reset : State :=
  { loader := .reset, link := .reset, peers := List.replicate 32 .reset, queue := .reset,
    seq := .reset, stack := .reset, gen := .reset, barrier := none,
    groups := List.replicate 15 .reset, homing := .reset, follow := .reset, drive := .reset,
    encoder := .reset, faults := .reset, openCount := 0, restCount := 0, indexCount := 0,
    pending := [] }

/-! ### Reasons a step can stop -/

/-- The reasons a command could end in a model fault. There are none: the manual gives every command
an effect in every state, and the station's own faults (R181) are state. Safe. -/
inductive Fault where
  deriving DecidableEq, Repr

/-- The reasons a command could be refused. -/
inductive Refusal where
  /-- Raised by an arm of `exec` whose command has no meaning yet; no arm raises it. Safe. -/
  | notModelled (mnemonic : String)
  deriving DecidableEq, Repr

end Sys2Proof.Machine
end

