-- ==== Sys2Proof/Machine/Operands.lean ====
section
/-! DEFINITION. The operand forms the rules compute with: the comparison window, exact roots and
quotients, saturating counts, byte order, signed values, and the fields of work records. -/

namespace Sys2Proof.Machine

/-! ### The comparison window (R1) -/

/-- The distance d of R1 for 8-bit numbers. -/
def dist8 (a b : BitVec 8) : Nat := (a - b).toNat

/-- The distance d of R1 for 16-bit numbers: the number of marks from `b` to `a` (R97). -/
def dist16 (a b : BitVec 16) : Nat := (a - b).toNat

/-- a is later than b, for 8-bit numbers (R1). -/
def later8 (a b : BitVec 8) : Bool := decide (1 ≤ dist8 a b ∧ dist8 a b ≤ 127)

/-- a is earlier than b, for 8-bit numbers (R1). -/
def earlier8 (a b : BitVec 8) : Bool := decide (128 ≤ dist8 a b)

/-! ### Exact arithmetic (chapter 3) -/

/-- The root of `n` found bit by bit from bit `k - 1` down, added to `r`. -/
def isqrtBits : Nat → Nat → Nat → Nat
  | 0, _, r => r
  | k + 1, n, r =>
    if (r + 2 ^ k) * (r + 2 ^ k) ≤ n then isqrtBits k n (r + 2 ^ k) else isqrtBits k n r

/-- The square root rounded down to a whole number (chapter 3, "All rates"). -/
def isqrt (n : Nat) : Nat := isqrtBits (n.log2 / 2 + 1) n 0

/-- A quotient rounded up (chapter 3). -/
def ceilDiv (n d : Nat) : Nat := (n + (d - 1)) / d

/-- A count raised by one that stops at its maximum (00 section 4.3). -/
def satSucc (max n : Nat) : Nat := if n < max then n + 1 else n

/-! ### Byte order and signed values (R196) -/

/-- The unsigned value of a field, least significant byte first. -/
def leNat : List Byte → Nat
  | [] => 0
  | b :: bs => b.toNat + 256 * leNat bs

/-- The bytes of a field of `k` bytes, least significant first. -/
def leBytes : Nat → Nat → List Byte
  | 0, _ => []
  | k + 1, n => BitVec.ofNat 8 n :: leBytes k (n / 256)

/-- The field of `n` bytes at an offset of an item. -/
def field (bytes : List Byte) (offset n : Nat) : List Byte := (bytes.drop offset).take n

/-- The unsigned value of the field of `n` bytes at an offset. -/
def fieldNat (bytes : List Byte) (offset n : Nat) : Nat := leNat (field bytes offset n)

/-- The byte at an offset; 0 where the item is too short, which the length checks rule out. -/
def byteAt (bytes : List Byte) (offset : Nat) : Byte := bytes.getD offset 0

/-- A 32-bit field as a position. -/
def position32 (bytes : List Byte) (offset : Nat) : Position :=
  BitVec.ofNat 32 (fieldNat bytes offset 4)

/-- Bit `k` of a mask: whether the address `k` is a member. -/
def member (m : Mask) (k : Nat) : Bool := m.getLsbD k

/-- The addresses of a mask, lowest first. -/
def members (m : Mask) : List Nat := (List.range 32).filter (member m)

/-- The mask of one address. -/
def maskOf (k : Nat) : Mask := 1#32 <<< k

/-! ### Directions and counts -/

/-- The other side (00 section 4.4). -/
def opposite : Side → Side
  | .pos => .neg
  | .neg => .pos

/-- The direction of a signed count: positive when it is above 0 (R59). -/
def sideOf (n : Int) : Side := if 0 < n then .pos else .neg

/-- A magnitude with the sign of a direction (R68). -/
def signed (d : Side) (n : Nat) : Int :=
  match d with
  | .pos => (n : Int)
  | .neg => -(n : Int)

/-- One step from a position in a direction, wrapping through 32 bits (R58). -/
def stepFrom (p : Position) : Side → Position
  | .pos => p + 1
  | .neg => p - 1

/-- A signed 32-bit difference that wraps (R69, R141, R158). -/
def diff32 (a b : Position) : Int := (a - b).toInt

/-- The largest distance a segment may have (R6, R34). -/
def maxDistance : Nat := 16777215

/-! ### Fields of work records -/

/-- The kind of a body (R6). -/
def Body.kind : Body → SegKind
  | .move _ => .move
  | .goto _ => .goto
  | .home _ _ _ _ => .home
  | .dwell _ => .dwell
  | .follow _ _ _ _ => .follow

/-- The kind of a residual (R74). -/
def Remaining.kind : Remaining → SegKind
  | .move _ => .move
  | .goto _ => .goto
  | .dwell _ => .dwell

/-- The tag of a work record (R26). -/
def Work.tag : Work → Tag
  | .segment e => e.tag
  | .residual r => r.tag

/-- The kind of a work record (R26). -/
def Work.kind : Work → SegKind
  | .segment e => e.body.kind
  | .residual r => r.remaining.kind

/-- The group of a work record (R26). -/
def Work.group : Work → Nat
  | .segment e => e.group
  | .residual r => r.group

/-- The profile held in a work record (R33, R56). -/
def Work.profile : Work → Profile
  | .segment e => e.profile
  | .residual r => r.profile

/-- The barrier block of a work record (R5, R86). -/
def Work.barrier : Work → Option BarrierBlock
  | .segment e => e.barrier
  | .residual r => r.barrier

/-- The CHAIN flag: a residual keeps none (R40, R74). -/
def Work.chain : Work → Bool
  | .segment e => e.chain
  | .residual _ => false

/-- The INSERT flag: a residual carries none (R74). -/
def Work.insert : Work → Bool
  | .segment e => e.insert
  | .residual _ => false

/-- The kinds that can be suspended (R76). -/
def SegKind.suspendable : SegKind → Bool
  | .move => true
  | .goto => true
  | .dwell => true
  | .home => false
  | .follow => false

end Sys2Proof.Machine
end

