-- ==== Sys2Proof/Machine/Layout.lean ====
section
/-! DEFINITION. Chapter 13: the encodings of enumerations (13.6), the check byte and the CRC-32 (13.1),
the bodies of messages as the owners read them (13.2, 13.3, 13.4), and the configuration record
(13.7). -/

namespace Sys2Proof.Machine

/-! ### Encodings (13.6) -/

def Station.code : Station → Byte
  | .offline => 0 | .idle => 1 | .held => 2 | .armed => 3
  | .running => 4 | .stopping => 5 | .settling => 6 | .faulted => 7

def SegKind.code : SegKind → Byte
  | .move => 1 | .goto => 2 | .home => 3 | .dwell => 4 | .follow => 5

def Result.code : Result → Byte
  | .done => 1 | .aborted => 2 | .halted => 3 | .faulted => 4

def Reason.code : Reason → Byte
  | .tagGap => 1 | .badField => 2 | .queueFull => 3 | .stackFull => 4
  | .armed => 5 | .notSuspendable => 6 | .state => 7 | .causePresent => 8

def FaultKind.code : FaultKind → Nat
  | .limitPos => 1 | .limitNeg => 2 | .driveFault => 3 | .followingError => 4
  | .encoderError => 5 | .settleTimeout => 6 | .homingFailed => 7 | .followOverrun => 8
  | .followLost => 9 | .barrierTimeout => 10 | .barrierLate => 11 | .barrierMismatch => 12
  | .cycleSlip => 13 | .notHomed => 14 | .range => 15 | .addressConflict => 16

def Origin.code : Origin → Byte
  | .preempt => 1 | .pause => 2 | .halt => 3

def Cause.code : Cause → Byte
  | .none => 0 | .fault => 1 | .peerLost => 2 | .commanded => 3
  | .reset => 4 | .relayed => 5 | .released => 6

def Presence.code : Presence → Byte
  | .unknown => 0 | .present => 1 | .lost => 2

def QueryKind.code : QueryKind → Byte
  | .queue => 1 | .stack => 2 | .groups => 3 | .peers => 4 | .faults => 5 | .counters => 6

/-- The query kind of a code; none for a value that is none of the six (R178, R198). -/
def QueryKind.ofCode (n : Nat) : Option QueryKind :=
  match n with
  | 1 => some .queue
  | 2 => some .stack
  | 3 => some .groups
  | 4 => some .peers
  | 5 => some .faults
  | 6 => some .counters
  | _ => none

/-- The code of a message kind that an owner takes (13.2). -/
def MsgKind.code : MsgKind → Byte
  | .segment => 0x01 | .flush => 0x02 | .stop => 0x03 | .resume => 0x04
  | .setPosition => 0x05 | .halt => 0x06 | .release => 0x07 | .clearFault => 0x08
  | .query => 0x09 | .stationReset => 0x0A

/-- The message kind of a code; none for STATUS, REPORT and every unknown kind (R171). -/
def MsgKind.ofCode (n : Nat) : Option MsgKind :=
  match n with
  | 1 => some .segment
  | 2 => some .flush
  | 3 => some .stop
  | 4 => some .resume
  | 5 => some .setPosition
  | 6 => some .halt
  | 7 => some .release
  | 8 => some .clearFault
  | 9 => some .query
  | 10 => some .stationReset
  | _ => none

/-- The kind code of STATUS (13.2). -/
def statusCode : Byte := 0x10

/-- The kind code of REPORT (13.2). -/
def reportCode : Byte := 0x11

/-- The destination ALL. -/
def destAll : Byte := 255

/-! ### Mark and frame (13.1) -/

/-- The check byte of a mark: the complement of the sum of its two number bytes modulo 256. -/
def markCheck (number : Cycle) : Byte :=
  ~~~(number.setWidth 8 + (number >>> 8).setWidth 8)

/-- One shift of the CRC register toward its least significant bit. -/
def crcShift (r : BitVec 32) : BitVec 32 :=
  if r.getLsbD 0 then (r >>> 1) ^^^ 0xEDB88320#32 else r >>> 1

/-- Eight shifts, one for each bit of a byte. -/
def crcShift8 (r : BitVec 32) : BitVec 32 :=
  crcShift (crcShift (crcShift (crcShift (crcShift (crcShift (crcShift (crcShift r)))))))

/-- The CRC register after a list of bytes, each fed least significant bit first. -/
def crcFeed : BitVec 32 → List Byte → BitVec 32
  | r, [] => r
  | r, b :: bs => crcFeed (crcShift8 (r ^^^ b.setWidth 32)) bs

/-- The CRC-32 of 13.1: register preset to all ones, complemented at the end. -/
def crc32 (bytes : List Byte) : BitVec 32 := ~~~(crcFeed 0xFFFFFFFF#32 bytes)

/-- A frame as sent: sender, payload length, payload and CRC. -/
def frameOf (sender : Nat) (payload : List Byte) : List Byte :=
  let head := BitVec.ofNat 8 sender :: BitVec.ofNat 8 payload.length :: payload
  head ++ leBytes 4 (crc32 head).toNat

/-- The payload length byte of a frame as heard. -/
def frameLength (bytes : List Byte) : Nat := (byteAt bytes 1).toNat

/-- The three bytes of a mark as sent: its number, least significant byte first, and the check byte
(13.1). -/
def markBytes (number : Cycle) : List Byte :=
  [number.setWidth 8, (number >>> 8).setWidth 8, markCheck number]

/-- A frame as heard passes the length and CRC check of R170. A transmission that has not the number of
bytes its length byte calls for does not pass (log 37). -/
def frameSound (bytes : List Byte) : Bool :=
  decide (frameLength bytes ≤ 128) && decide (bytes.length = frameLength bytes + 6) &&
    decide (bytes.drop (frameLength bytes + 2) =
      leBytes 4 (crc32 (bytes.take (frameLength bytes + 2))).toNat)

/-- One message of a payload: kind, destination and body (13.1). -/
structure Message where
  kind : Byte
  dest : Byte
  body : List Byte
  deriving DecidableEq, Repr

/-- The messages of a payload in the order they stand, up to one whose stated length runs past its end
(R171). The first argument bounds how many can stand there. -/
def splitMessages : Nat → List Byte → List Message
  | n + 1, kind :: dest :: len :: rest =>
    if len.toNat ≤ rest.length then
      ⟨kind, dest, rest.take len.toNat⟩ :: splitMessages n (rest.drop len.toNat)
    else []
  | _, _ => []

/-- The messages of a sound frame. -/
def frameMessages (bytes : List Byte) : List Message :=
  splitMessages (frameLength bytes) (field bytes 2 (frameLength bytes))

/-! ### SEGMENT (13.3) -/

/-- A flag of the fixed part. -/
def segFlag (body : List Byte) (bit : Nat) : Bool := (byteAt body 2).getLsbD bit

/-- The length of a kind's body (R197): HOME and FOLLOW grow by 4 with the optional bound. -/
def segBodyLength (kind : Nat) (optionalBound : Bool) : Option Nat :=
  match kind with
  | 1 => some 4
  | 2 => some 4
  | 3 => some (if optionalBound then 9 else 5)
  | 4 => some 2
  | 5 => some (if optionalBound then 7 else 3)
  | _ => none

/-- The offset at which the barrier block stands. -/
def segBarrierAt (body : List Byte) : Nat := 4 + if segFlag body 2 then 16 else 0

/-- The offset at which the body of the kind stands. -/
def segBodyAt (body : List Byte) : Nat := segBarrierAt body + if segFlag body 3 then 7 else 0

/-- The kind, when it is one of the five, and the length as required (R7 items 1 and 14). -/
def segShapeOk (body : List Byte) : Bool :=
  match segBodyLength (byteAt body 1).toNat (segFlag body 4) with
  | none => false
  | some n => decide (body.length = segBodyAt body + n)

/-- The profile block as taken. -/
def segProfileBlock (body : List Byte) : Profile :=
  ⟨fieldNat body 4 4, fieldNat body 8 4, fieldNat body 12 4, fieldNat body 16 4⟩

/-- A profile within the ranges of R4. -/
def profileOk (p : Profile) : Bool :=
  decide (1 ≤ p.fs) && decide (p.fs ≤ p.ft) && decide (p.ft ≤ 1000000) &&
    decide (1 ≤ p.a) && decide (p.a ≤ maxDistance) && decide (1 ≤ p.d) && decide (p.d ≤ maxDistance)

/-- The barrier block as taken, when its flag is set. -/
def segBarrierBlock (body : List Byte) : Option BarrierBlock :=
  if segFlag body 3 then
    some ⟨byteAt body (segBarrierAt body),
      BitVec.ofNat 32 (fieldNat body (segBarrierAt body + 1) 4),
      fieldNat body (segBarrierAt body + 5) 2⟩
  else none

/-- A member mask of R5: it contains the own address and no address at or above the span. -/
def maskOk (own span : Nat) (m : Mask) : Bool :=
  member m own && (members m).all (fun k => decide (k < span))

/-- The optional bound at an offset, when its flag is set. -/
def segBound (body : List Byte) (offset : Nat) : Option Nat :=
  if segFlag body 4 then some (fieldNat body offset 4) else none

/-- A bound of R6: 1 to 16,777,215 when present. -/
def boundOk : Option Nat → Bool
  | none => true
  | some n => decide (1 ≤ n) && decide (n ≤ maxDistance)

/-- The body of the kind as taken. -/
def segBody (body : List Byte) : Option Body :=
  let o := segBodyAt body
  match (byteAt body 1).toNat with
  | 1 => some (.move (position32 body o).toInt)
  | 2 => some (.goto (position32 body o))
  | 3 => some (.home (if (byteAt body o).getLsbD 0 then .neg else .pos)
      ((byteAt body o).toNat / 16) (position32 body (o + 1)) (segBound body (o + 5)))
  | 4 => some (.dwell (fieldNat body o 2))
  | 5 => some (.follow (byteAt body o).toNat (byteAt body (o + 1)).toInt (byteAt body (o + 2)).toNat
      (segBound body (o + 3)))
  | _ => none

/-- The range checks of R7 on the body of the kind (items 8 to 13 and 15). -/
def segBodyOk (own span : Nat) : Body → Bool
  | .move n => decide (n ≠ 0) && decide (n.natAbs ≤ maxDistance)
  | .goto _ => true
  | .home _ _ _ b => boundOk b
  | .dwell n => decide (n ≠ 0)
  | .follow leader num den b =>
    decide (leader ≠ own) && decide (leader < span) && decide (num ≠ 0) && decide (den ≠ 0) &&
      boundOk b

/-- CHAIN is allowed on MOVE and GOTO only (R7 item 3), and a profile block not on a DWELL (item 5). -/
def segFlagsOk (chain profile : Bool) : SegKind → Bool
  | .move => true
  | .goto => true
  | .home => !chain
  | .dwell => !chain && !profile
  | .follow => !chain

/-- The entry that a well-made SEGMENT body gives, its profile completed by R4; none where R7 refuses
it BAD_FIELD. -/
def segmentOf (own span : Nat) (defaultProfile : Profile) (body : List Byte) : Option QueueEntry :=
  match segBody body with
  | none => none
  | some b =>
    let group := (byteAt body 3).toNat
    let barrier := segBarrierBlock body
    let hasProfile := segFlag body 2
    if segShapeOk body && decide (group ≤ 15) && segFlagsOk (segFlag body 1) hasProfile b.kind &&
        (barrier.isNone || decide (group ≠ 0)) &&
        (!hasProfile || profileOk (segProfileBlock body)) &&
        (match barrier with | none => true | some k => maskOk own span k.mask) &&
        segBodyOk own span b then
      some { tag := byteAt body 0, insert := segFlag body 0, chain := segFlag body 1,
             group := group, profile := if hasProfile then segProfileBlock body else defaultProfile,
             barrier := barrier, body := b, bound := false }
    else none

/-! ### STATUS (13.4) -/

/-- The advertisement of a STATUS body, as received (R198). -/
def advOf (body : List Byte) : Advertisement :=
  { present := (byteAt body 22).getLsbD 0, started := (byteAt body 22).getLsbD 1,
    group := byteAt body 23, number := byteAt body 24, epoch := byteAt body 25,
    since := BitVec.ofNat 16 (fieldNat body 26 2), mask := BitVec.ofNat 32 (fieldNat body 28 4) }

/-- What the Peer Table keeps of a STATUS body; none when its length is not 49 (R171). -/
def statusOf (body : List Byte) : Option PeerStatus :=
  if body.length = 49 then
    some { position := position32 body 9, adv := advOf body, epochs := field body 32 15,
           haltedMask := BitVec.ofNat 16 (fieldNat body 47 2) }
  else none

/-! ### The configuration record (13.7) -/

/-- The checksum: the sum of bytes 0 to 36 modulo 65,536 (R191). -/
def recordSum (bytes : List Byte) : Nat := ((bytes.take 37).foldl (fun n b => n + b.toNat) 0) % 65536

/-- The encoder mode of its code. -/
def encoderModeOf (n : Nat) : Option EncoderMode :=
  match n with
  | 0 => some .off
  | 1 => some .quad1
  | 2 => some .quad2
  | 3 => some .quad4
  | 4 => some .upDown
  | _ => none

/-- The ranges of R192 for a record of 39 bytes whose encoder mode has been read. -/
def recordInRange (bytes : List Byte) : Bool :=
  decide ((byteAt bytes 0).toNat ≤ 1) && decide ((byteAt bytes 1).toNat ≤ 31) &&
  ((byteAt bytes 2 == 8) || (byteAt bytes 2 == 16) || (byteAt bytes 2 == 32)) &&
  decide (12 ≤ (byteAt bytes 3).toNat) && decide ((byteAt bytes 3).toNat ≤ 24) &&
  decide (2 ≤ (byteAt bytes 4).toNat) && decide ((byteAt bytes 4).toNat ≤ 8) &&
  decide (2 ≤ (byteAt bytes 5).toNat) && decide ((byteAt bytes 5).toNat ≤ 15) &&
  profileOk ⟨fieldNat bytes 6 4, fieldNat bytes 10 4, fieldNat bytes 14 4, fieldNat bytes 18 4⟩ &&
  decide (1 ≤ (byteAt bytes 23).toNat) && decide ((byteAt bytes 23).toNat ≤ 4) &&
  decide (fieldNat bytes 24 2 ≤ 4095) &&
  decide (1 ≤ (byteAt bytes 27).toNat) &&
  decide ((byteAt bytes 30).toNat ≤ 1) && decide (1 ≤ (byteAt bytes 31).toNat) &&
  decide (1 ≤ fieldNat bytes 33 2) && decide (fieldNat bytes 33 2 ≤ 4095) &&
  decide ((byteAt bytes 36).toNat ≤ 1)

/-- The settings of a record, and none when it fails the checks of R191 other than the address check:
a wrong number of bytes, a wrong checksum or a field outside its range. -/
def settingsOf (bytes : List Byte) : Option Settings :=
  match encoderModeOf (byteAt bytes 22).toNat with
  | none => none
  | some mode =>
    if decide (bytes.length = 39) && decide (fieldNat bytes 37 2 = recordSum bytes) &&
        recordInRange bytes then
      some { addressFromField := byteAt bytes 0 == 1, addressField := (byteAt bytes 1).toNat,
             span := (byteAt bytes 2).toNat, slotUnits := (byteAt bytes 3).toNat,
             lead := (byteAt bytes 4).toNat, lossLimit := (byteAt bytes 5).toNat,
             defaultProfile := ⟨fieldNat bytes 6 4, fieldNat bytes 10 4, fieldNat bytes 14 4,
               fieldNat bytes 18 4⟩,
             encoderMode := mode, divisor := (byteAt bytes 23).toNat,
             followingWindow := fieldNat bytes 24 2, settleWindow := (byteAt bytes 26).toNat,
             settleTimeout := (byteAt bytes 27).toNat, clearance := fieldNat bytes 28 2,
             clrEnabled := byteAt bytes 30 == 1, clrLength := (byteAt bytes 31).toNat,
             holdoff := (byteAt bytes 32).toNat, catchUp := fieldNat bytes 33 2,
             polarities := (byteAt bytes 35).setWidth 7, reversed := byteAt bytes 36 == 1 }
    else none

/-- The station address of R193: the straps, or the address field. -/
def addressOf (c : Settings) (straps : BitVec 5) : Nat :=
  if c.addressFromField then c.addressField else straps.toNat

end Sys2Proof.Machine
end

