-- ==== Sys2Proof/Machine/Ops.lean ====
section
/-! DEFINITION. The named updates of the state, one for each block, and the operations on one block that
several rules share: the last-refusal record, the station address and settings, the Peer Table and
the group table as lists read and written by address or group. -/

namespace Sys2Proof.Machine

/-! ### Updates, one block at a time -/

/-- The state with its `loader` replaced. -/
def State.setLoader (s : State) (x : Loader) : State := { s with loader := x }

/-- The state with its `link` replaced. -/
def State.setLink (s : State) (x : Link) : State := { s with link := x }

/-- The state with its `peers` replaced. -/
def State.setPeers (s : State) (x : List PeerEntry) : State := { s with peers := x }

/-- The state with its `queue` replaced. -/
def State.setQueue (s : State) (x : SegQueue) : State := { s with queue := x }

/-- The state with its `seq` replaced. -/
def State.setSeq (s : State) (x : Sequencer) : State := { s with seq := x }

/-- The state with its `stack` replaced. -/
def State.setStack (s : State) (x : Suspension) : State := { s with stack := x }

/-- The state with its `gen` replaced. -/
def State.setGen (s : State) (x : Gen) : State := { s with gen := x }

/-- The state with its `barrier` replaced. -/
def State.setBarrier (s : State) (x : Option BarrierRec) : State := { s with barrier := x }

/-- The state with its `groups` replaced. -/
def State.setGroups (s : State) (x : List GroupEntry) : State := { s with groups := x }

/-- The state with its `homing` replaced. -/
def State.setHoming (s : State) (x : Homing) : State := { s with homing := x }

/-- The state with its `follow` replaced. -/
def State.setFollow (s : State) (x : Follow) : State := { s with follow := x }

/-- The state with its `drive` replaced. -/
def State.setDrive (s : State) (x : Drive) : State := { s with drive := x }

/-- The state with its `encoder` replaced. -/
def State.setEncoder (s : State) (x : Encoder) : State := { s with encoder := x }

/-- The state with its `faults` replaced. -/
def State.setFaults (s : State) (x : FaultLog) : State := { s with faults := x }

/-- The state with its `openCount` replaced. -/
def State.setOpenCount (s : State) (x : Nat) : State := { s with openCount := x }

/-- The state with its `restCount` replaced. -/
def State.setRestCount (s : State) (x : Nat) : State := { s with restCount := x }

/-- The state with its `indexCount` replaced. -/
def State.setIndexCount (s : State) (x : Nat) : State := { s with indexCount := x }

/-- The state with its `pending` replaced. -/
def State.setPending (s : State) (x : List Instr) : State := { s with pending := x }

/-! ### Reading the configuration -/

/-- The configuration record in use (R191). -/
def State.cfg (s : State) : Settings := s.loader.settings

/-- The own station address (R193). -/
def State.own (s : State) : Nat := s.loader.address

/-- The record has been put into use (R191): inputs are judged and the encoder counted. -/
def State.loaded (s : State) : Bool := s.loader.load == .loaded

/-! ### The sequencer -/

/-- The station state. -/
def State.station (s : State) : Station := s.seq.station

/-- The state with another station state. -/
def State.setStation (s : State) (x : Station) : State := s.setSeq { s.seq with station := x }

/-- The state with another active record. -/
def State.setActive (s : State) (x : Option Active) : State := s.setSeq { s.seq with active := x }

/-- The tag of the active record, or none: the active tag of a report to the Fault Log (R182). -/
def State.activeTag (s : State) : Option Tag := s.seq.active.map (fun a => a.work.tag)

/-- The kind of the active record, or none. -/
def State.activeKind (s : State) : Option SegKind := s.seq.active.map (fun a => a.work.kind)

/-! ### Refusals (R16) -/

/-- A refusal writes the last-refusal record and raises its count by one. -/
def LastRefusal.write (r : LastRefusal) (kind : MsgKind) (tag : Option Tag) (reason : Reason) :
    LastRefusal :=
  { kind := some kind, tag := tag, reason := some reason, count := r.count + 1 }

/-- A message is refused: nothing changes but the last-refusal record (R2, R16). -/
def State.refuse (s : State) (kind : MsgKind) (tag : Option Tag) (reason : Reason) : State :=
  s.setQueue { s.queue with refusal := s.queue.refusal.write kind tag reason }

/-! ### The Peer Table (R175) -/

/-- The entry of an address; an address beyond the table reads as never heard. -/
def State.peer (s : State) (a : Nat) : PeerEntry := s.peers.getD a .reset

/-- The state with the entry of an address replaced. -/
def State.setPeer (s : State) (a : Nat) (e : PeerEntry) : State := s.setPeers (s.peers.set a e)

/-- A valid frame gives presence to its sender (R176). -/
def PeerEntry.heardFrame (e : PeerEntry) : PeerEntry :=
  { e with presence := .present, miss := 0, heard := true }

/-- A new-cycle mark judges one entry other than the own (R176), short of the loss itself. -/
def PeerEntry.judged (e : PeerEntry) : PeerEntry :=
  if e.presence = .present ∧ e.heard = false then { e with miss := e.miss + 1 } else e

/-- The heard mark is cleared (R169, R176). -/
def PeerEntry.unheard (e : PeerEntry) : PeerEntry := { e with heard := false }

/-- Every heard mark is cleared and no entry judged: a mark while LISTENING (R169). -/
def State.clearHeard (s : State) : State := s.setPeers (s.peers.map PeerEntry.unheard)

/-- The judgement of the whole table but the own entry at a new-cycle mark, then every heard mark is
cleared (R176). -/
def State.judgePeers (s : State) : State :=
  s.setPeers (s.peers.mapIdx (fun a e => if a = s.own then e.unheard else e.judged.unheard))

/-- The entry of an address is due to become LOST: PRESENT with the miss count at K (R176). -/
def State.lossDue (s : State) (a : Nat) : Bool :=
  decide (a ≠ s.own) && decide ((s.peer a).presence = .present) &&
    decide (s.cfg.lossLimit ≤ (s.peer a).miss)

/-! ### The group table (R109) -/

/-- The entry of group `g`, 1 to 15; group 0 has none and reads as never HALTED. -/
def State.group (s : State) (g : Nat) : GroupEntry :=
  if g = 0 then .reset else s.groups.getD (g - 1) .reset

/-- The state with the entry of group `g` replaced; group 0 has no entry. -/
def State.setGroup (s : State) (g : Nat) (e : GroupEntry) : State :=
  if g = 0 then s else s.setGroups (s.groups.set (g - 1) e)

/-- Gate 2 of R30: group 0 is never HALTED. -/
def State.groupHalted (s : State) (g : Nat) : Bool :=
  decide (g ≠ 0) && decide ((s.group g).condition = .halted)

/-- The groups 1 to 15, in order. -/
def groupNumbers : List Nat := (List.range 15).map (· + 1)

end Sys2Proof.Machine
end

