-- ==== Sys2Proof/Machine/Flags.lean ====
section
/-! DEFINITION. Every flag and line that is computed from the state: the flags of STATUS (R173), the
FAULT and DRV-CLR outputs (R153, R194), the level of DIR (R59), the conditions other blocks read
(start holdoff, limits, involvement, following error), and the clock lengths of the link (R163,
R166, R169). -/

namespace Sys2Proof.Machine

/-- The encoder is on: the ENCODER-ON flag of STATUS (R157). -/
def State.encoderOn (s : State) : Bool := decide (s.cfg.encoderMode ≠ .off)

/-- The flags byte of STATUS (13.4): FRESH, HOMED, PAUSE, OVERFLOW, ENCODER-ON from bit 0. -/
def State.statusFlags (s : State) : Byte :=
  BitVec.ofNat 8 (s.queue.fresh.toNat + 2 * s.seq.homed.toNat + 4 * s.seq.paused.toNat +
    8 * s.stack.overflow.toNat + 16 * s.encoderOn.toNat)

/-- The FAULT output (R194). -/
def State.faultOutput (s : State) : Bool :=
  decide (s.loader.load = .failed) || decide (s.link.state = .silent) || s.faults.current.isSome

/-- The DRV-CLR output: active during a pulse (R153). -/
def State.drvClrOutput (s : State) : Bool := decide (s.drive.clear = .pulse)

/-- The start holdoff is running for gate 3 of R30: the clear state is PULSE or HOLD (R154). -/
def State.holdoffRunning (s : State) : Bool := decide (s.drive.clear ≠ .none)

/-- The level of DIR for a direction, high as true, under the direction sense (R59). -/
def dirLevel (c : Settings) : Side → Bool
  | .pos => !c.reversed
  | .neg => c.reversed

/-- The conditioned state of the limit on a side (R150). -/
def State.limitActive (s : State) : Side → Bool
  | .pos => s.drive.limPos
  | .neg => s.drive.limNeg

/-- The limit fault of a side (R34, R145, R151). -/
def limitFault : Side → FaultKind
  | .pos => .limitPos
  | .neg => .limitNeg

/-- The station is stepping toward a side (R151): RUNNING or STOPPING, in a run rather than in
STANDSTILL, in that direction. -/
def State.steppingToward (s : State) (d : Side) : Bool :=
  (decide (s.station = .running) || decide (s.station = .stopping)) &&
    decide (s.gen.phase ≠ .standstill) && decide (s.gen.dir = d)

/-- The station is involved in group `g`, 1 to 15 (R113): its active record, its barrier record or a
residual on its stack is of that group. -/
def State.involved (s : State) (g : Nat) : Bool :=
  decide (g ≠ 0) &&
    ((match s.seq.active with | none => false | some a => decide (a.work.group = g)) ||
     (match s.barrier with | none => false | some b => decide (b.group = g)) ||
     s.stack.residuals.any (fun r => decide (r.group = g)))

/-- The following error: commanded minus encoder position, a signed 32-bit difference (R158). -/
def State.followingError (s : State) : Int := diff32 s.gen.position s.encoder.position

/-- The following error is checked and its magnitude is more than the following window (R158). -/
def State.errorBeyond (s : State) : Bool :=
  s.encoderOn && decide (s.cfg.followingWindow ≠ 0) &&
    decide (s.cfg.followingWindow < s.followingError.natAbs)

/-- The magnitude of the following error is at most the settle window (R159). -/
def State.errorSettled (s : State) : Bool :=
  decide (s.followingError.natAbs ≤ s.cfg.settleWindow)

/-- The slot length in microseconds (R163, 13.7). -/
def Settings.slotLength (c : Settings) : Nat := 8 * c.slotUnits

/-- The nominal cycle in microseconds (R163). -/
def Settings.nominalCycle (c : Settings) : Nat := 8 + c.span * c.slotLength

/-- The length of the mark timer in microseconds (R166). -/
def State.markTimerLength (s : State) : Nat := s.cfg.nominalCycle + (s.own + 1) * 2

/-- The length of the silence timer in microseconds (R169). -/
def State.silenceTimerLength (s : State) : Nat := 4 * s.cfg.nominalCycle

/-- Where a transmission that began some nanoseconds after the start of the last mark lies (R163):
`some k` in slot k, `none` in no slot. The mark window is judged before. -/
def Settings.slotAt (c : Settings) (sinceMark : Nat) : Option Nat :=
  let k := (sinceMark - 8000) / (1000 * c.slotLength)
  if sinceMark < 8000 then none else if k < c.span then some k else none

end Sys2Proof.Machine
end

