-- ==== Sys2Proof/Machine/Generator.lean ====
section
/-! DEFINITION. The Step Generator (chapter 3): the rates of a profile, the orders of R55, and the
emission of one step. These are operations on the generator alone; what a step, a commit point, a
last step or a standstill means to the other blocks stands in Emission.lean and the files after
it. -/

namespace Sys2Proof.Machine

/-! ### Rates (R60, R62) -/

/-- The rate after `k` steps of a ramp up from `f0` (R60). -/
def rampUp (f0 ft a k : Nat) : Nat := min ft (isqrt (f0 * f0 + 2 * a * k))

/-- The rate of step `j` of a ramp down from `f` toward `fe` (R62): the root is taken as 0 when the
difference is negative. -/
def rampDown (f fe d j : Nat) : Nat := max fe (isqrt (f * f - 2 * d * j))

/-- The braking distance of R62 from `f` toward `fe`. -/
def brakingDistance (f fe d : Nat) : Nat :=
  if fe < f then ceilDiv (f * f - fe * fe) (2 * d) else 0

/-- The steps after the first that a ramp needs from `f0` to the top rate (R63). -/
def rampSteps (f0 ft a : Nat) : Nat := ceilDiv (ft * ft - f0 * f0) (2 * a)

/-- The short test of R63 for a run of `n` steps from `f0`. -/
def shortRun (n f0 : Nat) (p : Profile) : Bool :=
  decide (n ≤ rampSteps f0 p.ft p.a + max (ceilDiv (p.ft * p.ft - p.fs * p.fs) (2 * p.d)) 1)

/-! ### Runs -/

/-- The steps a counted run has still to emit (R62). -/
def Run.left (r : Run) : Nat := r.count.getD 0 - r.emitted

/-- The run has emitted its last step (R65). -/
def Run.ended (r : Run) : Bool :=
  match r.count with
  | none => false
  | some n => decide (n ≤ r.emitted)

/-- A counted run of `n` steps from initial rate `f0`, its end rate Fs (R60, R63). -/
def Run.counted (n : Nat) (p : Profile) (f0 : Nat) (chain : Bool) : Run :=
  { kind := .counted, count := some n, emitted := 0, profile := p, endRate := p.fs, baseRate := f0,
    baseSteps := 0, commitWatch := chain, nextRate := f0 }

/-- An open run from Fs (R70). R54 gives an end rate to counted runs alone: an open run holds Fs (DESIGN
CHOICE, log 39). -/
def Run.openFrom (p : Profile) : Run :=
  { kind := .openRun, count := none, emitted := 0, profile := p, endRate := p.fs, baseRate := p.fs,
    baseSteps := 0, commitWatch := false, nextRate := p.fs }

/-- A flat run at a rate, with or without a count (R71). R54 gives an end rate to counted runs alone and a
ramp base to runs with a ramp: a flat run holds Fs, and its rate with the steps since the order (DESIGN
CHOICE, log 39). -/
def Run.flatAt (rate : Nat) (count : Option Nat) (p : Profile) : Run :=
  { kind := .flat, count := count, emitted := 0, profile := p, endRate := p.fs, baseRate := rate,
    baseSteps := 0, commitWatch := false, nextRate := rate }

/-! ### Orders (R55) -/

/-- STANDSTILL with current rate 0: the run and all that describes it are discarded (R54, R67). Its
profile and end rate go with it (log 35). -/
def Gen.ceased (g : Gen) : Gen := { g with phase := .standstill, rate := 0, run := none }

/-- The direction of a run is fixed and DIR set to its level when the order is taken (R59). -/
def Gen.turned (g : Gen) (c : Settings) (d : Side) : Gen :=
  { g with dir := d, dirHigh := dirLevel c d }

/-- The order of a counted run from initial rate `f0` (R60): in CRUISING when `f0` is the top rate. -/
def Gen.orderCounted (g : Gen) (c : Settings) (n : Nat) (d : Side) (p : Profile) (f0 : Nat)
    (chain : Bool) : Gen :=
  { g.turned c d with
    phase := if f0 = p.ft then .cruising else .accelerating
    run := some (.counted n p f0 chain) }

/-- The order of an open run: it begins in ACCELERATING (R70). -/
def Gen.orderOpen (g : Gen) (c : Settings) (d : Side) (p : Profile) : Gen :=
  { g.turned c d with phase := .accelerating, run := some (.openFrom p) }

/-- The order of a flat run (R71). -/
def Gen.orderFlat (g : Gen) (c : Settings) (d : Side) (p : Profile) (rate : Nat)
    (count : Option Nat) : Gen :=
  { g.turned c d with phase := .flat, run := some (.flatAt rate count p) }

/-- The set count order of R70: the open run becomes a counted run of `n` more steps. Its count may go past
the 16,777,215 of R54 and is then kept as it is (DESIGN CHOICE, log 40). -/
def Gen.setCount (g : Gen) (n : Nat) : Gen :=
  { g with run := g.run.map (fun r =>
      { r with kind := .counted, count := some (r.emitted + n), endRate := r.profile.fs }) }

/-- The end rate change given at a binding (R64). -/
def Gen.setEndRate (g : Gen) (f : Nat) : Gen :=
  { g with run := g.run.map (fun r => { r with endRate := f }) }

/-- The commit watch is cleared: reporting the commit point, or a stop (R63). -/
def Gen.unwatched (g : Gen) : Gen :=
  { g with run := g.run.map (fun r => { r with commitWatch := false }) }

/-- The rate from which a decelerating stop brakes a run: the flat rate of a flat run (R71, R148), and the
current rate of any other (R66). They differ only after a new flat order in the same direction that
has emitted no step yet (log 34). -/
def Gen.stopRate (g : Gen) (r : Run) : Nat := if g.phase = .flat then r.baseRate else g.rate

/-- A decelerating stop is at standstill within its happening: in STANDSTILL, or with the rate it would
brake from at or below Fs of the run's profile (R66, R71). -/
def Gen.stopsAtOnce (g : Gen) : Bool :=
  match g.phase, g.run with
  | .standstill, _ => true
  | _, none => true
  | .braking, some _ => false
  | _, some r => decide (g.stopRate r ≤ r.profile.fs)

/-- A decelerating stop of a run that is not at standstill at once (R66, R71): BRAKING from its rate
toward Fs, with end rate, binding and commit watch dropped. A second one changes nothing. -/
def Gen.brake (g : Gen) : Gen :=
  if g.phase = .braking then g
  else { g with
    phase := .braking
    run := g.run.map (fun r =>
      { r with endRate := r.profile.fs, baseRate := g.stopRate r, baseSteps := 0,
               commitWatch := false,
               nextRate := rampDown (g.stopRate r) r.profile.fs r.profile.d 1 }) }

/-! ### One step (R57 to R62) -/

/-- The step that is due is emitted: position, steps emitted and current rate move with it, and the
phase becomes CRUISING with the step whose rate is the top rate (R57, R58, R60). -/
def Gen.emit (g : Gen) : Gen :=
  match g.run with
  | none => g
  | some r =>
    { g with
      phase := if g.phase = .accelerating ∧ r.nextRate = r.profile.ft then .cruising else g.phase
      rate := r.nextRate
      position := stepFrom g.position g.dir
      run := some { r with emitted := r.emitted + 1, baseSteps := r.baseSteps + 1 } }

/-- The commit point falls at the step just emitted (R63): the watch is set and the steps left are
within the higher of 1 and the braking distance toward Fs. -/
def Gen.commitDue (g : Gen) : Bool :=
  match g.run with
  | none => false
  | some r => r.commitWatch &&
      decide (r.left ≤ max (brakingDistance g.rate r.profile.fs r.profile.d) 1)

/-- The deceleration point is at the step just emitted (R62). -/
def Gen.decelerationDue (g : Gen) : Bool :=
  match g.run with
  | none => false
  | some r => decide (r.kind = .counted) &&
      decide (r.left ≤ brakingDistance g.rate r.endRate r.profile.d)

/-- After the emission of a step that is not the last, the rate of the next one is fixed by the rules
of the phase (R57, R60 to R62, R66, R71). -/
def Gen.schedule (g : Gen) : Gen :=
  match g.run with
  | none => g
  | some r =>
    match g.phase with
    | .standstill => g
    | .flat => { g with run := some { r with nextRate := r.baseRate } }
    | .accelerating =>
      if g.decelerationDue then
        { g with phase := .decelerating,
                 run := some { r with baseRate := g.rate, baseSteps := 0,
                                      nextRate := rampDown g.rate r.endRate r.profile.d 1 } }
      else { g with run := some { r with
          nextRate := rampUp r.baseRate r.profile.ft r.profile.a r.baseSteps } }
    | .cruising =>
      if g.decelerationDue then
        { g with phase := .decelerating,
                 run := some { r with baseRate := g.rate, baseSteps := 0,
                                      nextRate := rampDown g.rate r.endRate r.profile.d 1 } }
      else { g with run := some { r with nextRate := r.profile.ft } }
    | .decelerating =>
      { g with run := some { r with
          nextRate := rampDown r.baseRate r.endRate r.profile.d (r.baseSteps + 1) } }
    | .braking =>
      { g with run := some { r with
          nextRate := rampDown r.baseRate r.profile.fs r.profile.d (r.baseSteps + 1) } }

/-- The signed remaining count of a counted run (R68). -/
def Gen.remaining (g : Gen) (r : Run) : Int := signed g.dir r.left

end Sys2Proof.Machine
end

