-- ==== Sys2Proof/Machine/GroupTable.lean ====
section
/-! DEFINITION. The group table as a table (chapter 6): the order of group states, and the three claims
on an entry (raising a halt, adopting a heard state, a RELEASE). What a change does to the station
stands in Notices.lean. -/

namespace Sys2Proof.Machine

/-- Group state (e, c) is later than (e', c') (R110). -/
def laterState (e : Epoch) (c : Condition) (e' : Epoch) (c' : Condition) : Bool :=
  later8 e e' || (decide (e = e') && decide (c = .clear) && decide (c' = .halted))

/-- An entry moved to a state by a claim, with the claim recorded (R109). -/
def GroupEntry.claim (e : Epoch) (c : Condition) (cause : Cause) (originator : Nat)
    (cycle : Cycle) : GroupEntry :=
  { epoch := e, condition := c, synchronised := true, cause := cause, originator := some originator,
    changedAt := cycle }

/-- Raising a halt (R114): from (e, CLEAR) to (e + 1, HALTED); from HALTED nothing changes. -/
def GroupEntry.raise (x : GroupEntry) (cause : Cause) (originator : Nat) (cycle : Cycle) :
    GroupEntry :=
  match x.condition with
  | .halted => x
  | .clear => .claim (x.epoch + 1) .halted cause originator cycle

/-- A heard state is compared with an entry (R111, R119): an unsynchronised entry takes it, a
synchronised one adopts it when it is later. -/
def GroupEntry.hear (x : GroupEntry) (e : Epoch) (c : Condition) (peer : Nat) (cycle : Cycle) :
    GroupEntry :=
  if !x.synchronised || laterState e c x.epoch x.condition then .claim e c .relayed peer cycle
  else x

/-- A RELEASE naming epoch `e` acts on an entry (R121): an unsynchronised entry takes (e, CLEAR), and
so does one that stands before it; any other is left as it is. -/
def GroupEntry.release (x : GroupEntry) (e : Epoch) (sender : Nat) (cycle : Cycle) : GroupEntry :=
  if !x.synchronised || laterState e .clear x.epoch x.condition then
    .claim e .clear .released sender cycle
  else x

/-- The group state of an entry has changed: its epoch or its condition (R112). -/
def GroupEntry.moved (before after : GroupEntry) : Bool :=
  decide (before.epoch ≠ after.epoch) || decide (before.condition ≠ after.condition)

/-- A halt of one group is raised in the table (R114). -/
def State.raiseInTable (s : State) (g : Nat) (cause : Cause) (originator : Nat) : State :=
  s.setGroup g ((s.group g).raise cause originator s.link.cycle)

/-- A halt of every group in which the station is involved is raised in the table (R115, R118). -/
def State.raiseInvolved (s : State) (cause : Cause) (originator : Nat) : State :=
  s.setGroups (s.groups.mapIdx (fun i x =>
    if s.involved (i + 1) then x.raise cause originator s.link.cycle else x))

/-- The state of group `i + 1` in a heard vector (R198): its epoch, and bit `i` of the HALTED mask. -/
def heardState (p : PeerStatus) (i : Nat) : Epoch × Condition :=
  (p.epochs.getD i 0, if p.haltedMask.getLsbD i then .halted else .clear)

/-- A peer's group vector is compared with the table, group by group (R119). -/
def State.hearVector (s : State) (p : PeerStatus) (peer : Nat) : State :=
  s.setGroups (s.groups.mapIdx (fun i x =>
    x.hear (heardState p i).1 (heardState p i).2 peer s.link.cycle))

end Sys2Proof.Machine
end

