-- ==== Sys2Proof/Machine/Records.lean ====
section
/-! DEFINITION. How an active record stops and ends (02 sections 2.4 and 2.6, 04 section 4.3): its end
with a result, its end as a residual, unbinding, the standstill rule, and the stops of R46. None of
these runs dispatch: `enterIdle` in Dispatching.lean does, for the happening as a whole. -/

namespace Sys2Proof.Machine

/-! ### Ending a record (R36) -/

/-- What goes with a record that ends in any way: the generator stands still, the Homing Controller and
the Follow Unit return to NONE and keep nothing (R127, R139), the settle check ends (R159), the
barrier record of the record is discarded (R93), and so is the record itself. -/
def State.dropRecord (s : State) : State :=
  (((((s.setGen s.gen.ceased).setHoming .reset).setFollow .reset).setEncoder
    { s.encoder with settle := none }).setBarrier none).setActive none

/-- The station state a result leads to: FAULTED, or IDLE with dispatch to follow (R36). -/
def Result.station : Result → Station
  | .faulted => .faulted
  | .done => .idle
  | .aborted => .idle
  | .halted => .idle

/-- The active record ends: the last-finished record is written, the record discarded, and the station
enters IDLE or FAULTED (R36). -/
def State.endRecord (s : State) (result : Result) : State :=
  match s.seq.active with
  | none => s
  | some a =>
    let t := s.dropRecord
    t.setSeq { t.seq with station := result.station, lastFinished := some (a.work.tag, result) }

/-! ### Residuals (R74, R75, R80, R81) -/

/-- The remaining part of the active record at standstill (R75); none for a HOME or a FOLLOW. -/
def State.remainingPart (s : State) (a : Active) : Option Remaining :=
  match a.work, a.work.kind with
  | .segment ⟨_, _, _, _, _, _, .goto target, _⟩, _ => some (.goto target)
  | .residual ⟨_, _, _, _, _, .goto target⟩, _ => some (.goto target)
  | _, .move => s.gen.run.map (fun r => .move (s.gen.remaining r))
  | _, .dwell => a.dwellEnd.map (fun e => .dwell (dist16 e s.link.cycle))
  | _, _ => none

/-- The residual that the active record becomes, with its fields copied (R74). -/
def Active.residual (a : Active) (origin : Origin) (part : Remaining) : Residual :=
  { tag := a.work.tag, group := a.work.group, barrier := a.work.barrier,
    profile := a.work.profile, origin := origin, remaining := part }

/-- A residual is pushed: it is placed on top, the record discarded without a result, and the station
enters IDLE (R80). -/
def State.pushResidual (s : State) (r : Residual) : State :=
  let t := s.dropRecord
  (t.setStack { t.stack with residuals := r :: t.stack.residuals }).setStation .idle

/-- A push that finds the stack full (R81): OVERFLOW and its counter, and the record ends. -/
def State.discardResidual (s : State) (result : Result) : State :=
  (s.setStack { s.stack with
    overflow := true, overflowCount := satSucc 255 s.stack.overflowCount }).endRecord result

/-- The stack has room for a PAUSE or HALT push (R80). -/
def State.stackHasRoom (s : State) : Bool := decide (s.stack.residuals.length < 3)

/-- The standstill rule (R48): the first row that applies decides. -/
def State.reachStandstill (s : State) : State :=
  match s.seq.active with
  | none => s.setGen s.gen.ceased
  | some a =>
    if a.faultEnded then s.endRecord .faulted
    else
      match a.disposition, s.remainingPart a with
      | none, _ => s.setGen s.gen.ceased
      | some .abort, _ => s.endRecord .aborted
      | some .preempt, some part => s.pushResidual (a.residual .preempt part)
      | some .preempt, none => s.endRecord .aborted
      | some .pause, some part =>
        if s.stackHasRoom then s.pushResidual (a.residual .pause part)
        else s.discardResidual .aborted
      | some .pause, none => s.endRecord .aborted
      | some .halt, some part =>
        if s.stackHasRoom then s.pushResidual (a.residual .halt part)
        else s.discardResidual .halted
      | some .halt, none => s.endRecord .halted

/-! ### Stops (R44, R46, R47) -/

/-- Unbinding: the bound entry is again an ordinary queue head (R8, R44). The end rate returns to Fs
with the stop itself (`Gen.brake`, `Gen.ceased`). -/
def State.unbind (s : State) : State :=
  let t := s.setQueue { s.queue with
    entries := s.queue.entries.map (fun e => { e with bound := false }) }
  t.setActive (t.seq.active.map (fun a => { a with bound := none }))

/-- A stop of any kind turns a tracking Follow Unit to CEASED and abandons its slow turn (R148). -/
def State.ceaseFollow (s : State) : State :=
  if s.follow.phase = .tracking then
    s.setFollow { s.follow with phase := .ceased, turning := none }
  else s

/-- The stop itself once the record carries its disposition: immediate, or of a DWELL, or of a run
already slow enough, is at standstill at once; any other brakes and the station is STOPPING (R46,
R66, R67). -/
def State.stopMotion (s : State) (immediate : Bool) : State :=
  if immediate || decide (s.activeKind = some .dwell) || s.gen.stopsAtOnce then s.reachStandstill
  else (s.setGen s.gen.brake).setStation .stopping

/-- A stop begun while the station is RUNNING (R46): the successor is unbound, the record takes the
disposition, with the fault-ended mark for a fault and a reserved place for a preemption. -/
def State.beginStop (s : State) (disposition : Disposition) (immediate faultEnded : Bool) : State :=
  let t := s.unbind.ceaseFollow
  match t.seq.active with
  | none => s
  | some a =>
    (t.setActive (some { a with
      disposition := some disposition, faultEnded := faultEnded,
      reserved := decide (disposition = .preempt) })).stopMotion immediate

/-- The stop of a record of its halted group: decelerating, disposition HALT (R46, R123). -/
def State.stopForHalt (s : State) : State := s.beginStop .halt false false

/-! ### Completing (R35, R37, R159) -/

/-- The settle test: a settling record whose error is within the window ends DONE (R37, R159). -/
def State.settleTest (s : State) : State :=
  if s.station = .settling ∧ s.errorSettled then s.endRecord .done else s

/-- The station enters SETTLING: the stop, if any, is over, the settle count is 0, and the error is
tested at once (R35, R37, R159). -/
def State.enterSettling (s : State) : State :=
  let t := (s.setGen s.gen.ceased).setEncoder { s.encoder with settle := some 0 }
  (t.setSeq { t.seq with
    station := .settling
    active := t.seq.active.map (fun a => { a with disposition := none, reserved := false }) }).settleTest

/-- The kinds that settle (R35). -/
def SegKind.settles : SegKind → Bool
  | .move => true
  | .goto => true
  | .home => true
  | .dwell => false
  | .follow => false

/-- A record that settles enters SETTLING at its end: the encoder is on and the settle window is not 0
(R35). -/
def State.settlesAtEnd (s : State) : Bool := s.encoderOn && decide (s.cfg.settleWindow ≠ 0)

/-- The work of the active record is complete and no successor is bound (R35): it ends FAULTED under
the fault-ended mark, settles, or ends DONE. -/
def State.completeWork (s : State) : State :=
  match s.seq.active with
  | none => s
  | some a =>
    if a.faultEnded then s.endRecord .faulted
    else if a.work.kind.settles && s.settlesAtEnd then
      s.enterSettling
    else s.endRecord .done

end Sys2Proof.Machine
end

