-- ==== Sys2Proof/Machine/FaultPath.lean ====
section
/-! DEFINITION. The fault path (chapter 11; R49, R115, R153): what a kind fixes, how the Fault Log
records a fault, and what the sequencer and the Drive Interface do with it, as ONE shared operation
`State.recordFault`. -/

namespace Sys2Proof.Machine

/-! ### What a kind fixes (R181) -/

/-- The kinds whose stop is immediate (R181). A kind whose stop is none stops a moving record
decelerating (R46), as the decelerating kinds do. -/
def FaultKind.immediate : FaultKind → Bool
  | .limitPos | .limitNeg | .driveFault | .followingError | .encoderError | .homingFailed
  | .followOverrun => true
  | .settleTimeout | .followLost | .barrierTimeout | .barrierLate | .barrierMismatch | .cycleSlip
  | .notHomed | .range | .addressConflict => false

/-- The kinds after which DRV-CLR is pulsed (R153, R181). -/
def FaultKind.pulses : FaultKind → Bool
  | .limitPos | .limitNeg | .driveFault | .followingError | .encoderError | .homingFailed
  | .followOverrun => true
  | .settleTimeout | .followLost | .barrierTimeout | .barrierLate | .barrierMismatch | .cycleSlip
  | .notHomed | .range | .addressConflict => false

/-- The kinds that clear HOMED (R52, R181). -/
def FaultKind.clearsHomed : FaultKind → Bool
  | .driveFault | .followingError | .encoderError => true
  | .limitPos | .limitNeg | .settleTimeout | .homingFailed | .followOverrun | .followLost
  | .barrierTimeout | .barrierLate | .barrierMismatch | .cycleSlip | .notHomed | .range
  | .addressConflict => false

/-! ### The Fault Log (R182 to R184) -/

/-- A kind joins the set of recorded kinds, once (R184). -/
def addKind (k : FaultKind) (kinds : List FaultKind) : List FaultKind :=
  if kinds.contains k then kinds else kinds ++ [k]

/-- A fault is recorded: the first of an episode (R183), or one that continues it (R184). -/
def FaultLog.record (f : FaultLog) (e : FaultEntry) : FaultLog :=
  match f.first with
  | none => { current := some e.kind, first := some e, last := some e, count := 1, kinds := [e.kind] }
  | some _ =>
    { f with current := some e.kind, last := some e, count := satSucc 255 f.count,
             kinds := addKind e.kind f.kinds }

/-! ### The consequences (R49, R52, R153) -/

/-- A fault reaches a record that is STOPPING (R47): the fault-ended mark is set and the reserved place
released; an immediate kind ends the braking. -/
def State.faultWhileStopping (s : State) (immediate : Bool) : State :=
  let t := (s.setActive (s.seq.active.map (fun a =>
    { a with faultEnded := true, reserved := false }))).ceaseFollow
  if immediate then t.reachStandstill else t

/-- The sequencer acts on a fault by the station state (R49). -/
def State.faultStation (s : State) (immediate : Bool) : State :=
  match s.station with
  | .offline => s
  | .idle => s.setStation .faulted
  | .held => s.setStation .faulted
  | .armed => (s.setBarrier none).setStation .faulted
  | .running => s.beginStop .abort immediate true
  | .stopping => s.faultWhileStopping immediate
  | .settling => s.endRecord .faulted
  | .faulted => s

/-- HOMED is cleared by the kinds of R52. -/
def State.clearHomedFor (s : State) (k : FaultKind) : State :=
  if k.clearsHomed then s.setSeq { s.seq with homed := false } else s

/-- A pulse is started, or restarted, when DRV-CLR is enabled (R153). -/
def State.startPulse (s : State) : State :=
  if s.cfg.clrEnabled then
    s.setDrive { s.drive with clear := .pulse, pulseTimer := some s.cfg.clrLength,
                              holdoffTimer := none }
  else s

/-- The Drive Interface is told of the kinds that pulse (R183 item 4). -/
def State.pulseFor (s : State) (k : FaultKind) : State := if k.pulses then s.startPulse else s

/-- The Fault Log writes its records from a report (R183 item 1, R184). -/
def State.logFault (s : State) (k : FaultKind) (tag : Option Tag) : State :=
  s.setFaults (s.faults.record
    { kind := k, cycle := s.link.cycle, tag := tag, position := s.gen.position })

/-- A fault reported to the Fault Log (R183, R184): it is recorded, a halt of every involved group is
raised before the sequencer acts (R115), the sequencer acts (R49), HOMED is cleared for the kinds of
R52 and the Drive Interface told (R153). The halts and the fault reach the record within this one
happening and R47 gives the same end in either order: the station is left STOPPING under the
fault-ended mark or FAULTED, where the change notices of R123 have no effect (log 14). While the
station is OFFLINE nothing is recorded (R183). -/
def State.recordFault (s : State) (k : FaultKind) (tag : Option Tag) : State :=
  if s.station = .offline then s
  else
    ((((s.logFault k tag).raiseInvolved .fault s.own).faultStation k.immediate).clearHomedFor k).pulseFor k

/-- A fault whose active tag is the tag of the active record when one exists (R152, R156, R158). -/
def State.faultOfActive (s : State) (k : FaultKind) : State := s.recordFault k s.activeTag

/-! ### The following error (R158) -/

/-- The check of R158 after a change of either position: the fault is raised when the magnitude of the
error has gone from at most the window to more than the window. -/
def State.checkFollowing (before after : State) : State :=
  if !before.errorBeyond && after.errorBeyond then after.faultOfActive .followingError else after

/-- The level tests on the entry into IDLE at joining and under a STATION_RESET (R152, R158). -/
def State.levelTests (s : State) : State :=
  let t := if s.drive.drvFlt then s.faultOfActive .driveFault else s
  if t.errorBeyond then t.faultOfActive .followingError else t

end Sys2Proof.Machine
end

