-- ==== Sys2Proof/Machine/Barrier.lean ====
section
/-! DEFINITION. The Barrier Unit (chapter 5): judging a member, reading the members, computing S, arming
and re-arming in place. -/

namespace Sys2Proof.Machine

/-- The judgement of a member's entry (R95). -/
inductive Judgement where
  | notReady
  | ready (since : Cycle)
  | mismatch
  deriving DecidableEq, Repr

/-- The age of a since-cycle: the marks from it to the current cycle number (R97). -/
def age (now since : Cycle) : Nat := dist16 now since

/-- An advertisement judged against the own record (R95). -/
def BarrierRec.judgeAdv (b : BarrierRec) (a : Advertisement) : Judgement :=
  if !a.present || decide (a.group.toNat ≠ b.group) then .notReady
  else if a.number = b.number ∧ a.epoch = b.epoch then
    if a.mask = b.mask then .ready a.since else .mismatch
  else if later8 a.number b.number then .mismatch
  else .notReady

/-- A member judged from its Peer Table entry, by the first row that applies (R95). -/
def State.judgeMember (s : State) (b : BarrierRec) (m : Nat) : Judgement :=
  if !member b.confirmed m then .notReady
  else if (s.peer m).presence ≠ .present then .notReady
  else
    match (s.peer m).status with
    | none => .notReady
    | some p => b.judgeAdv p.adv

/-- The members other than the own address (R89). -/
def State.otherMembers (s : State) (b : BarrierRec) : List Nat :=
  (members b.mask).filter (fun m => decide (m ≠ s.own))

/-- The since-cycle of a ready member. -/
def Judgement.since? : Judgement → Option Cycle
  | .ready c => some c
  | .notReady => none
  | .mismatch => none

/-- The latest of a list of since-cycles and the own one: the one of smallest age (R97). -/
def latestSince (now : Cycle) (own : Cycle) (others : List Cycle) : Cycle :=
  others.foldl (fun best c => if age now c < age now best then c else best) own

/-- S is computed and the late test made (R97, R98). -/
def State.computeStart (s : State) (b : BarrierRec) (others : List Cycle) : State :=
  let latest := latestSince s.link.cycle b.since others
  if s.cfg.lead ≤ age s.link.cycle latest then s.recordFault .barrierLate none
  else s.setBarrier (some { b with start := some (latest + BitVec.ofNat 16 s.cfg.lead) })

/-- The members are read (R94 to R98), while the phase is ARMED and S absent. -/
def State.readMembers (s : State) : State :=
  match s.barrier with
  | none => s
  | some b =>
    if b.phase = .started ∨ b.start.isSome then s
    else
      let js := (s.otherMembers b).map (s.judgeMember b)
      if js.contains .mismatch then s.recordFault .barrierMismatch none
      else if js.all (fun j => j.since?.isSome) then s.computeStart b (js.filterMap Judgement.since?)
      else s

/-- The record formed at arming (R90 item 1). -/
def State.armedRecord (s : State) (group : Nat) (k : BarrierBlock) : BarrierRec :=
  { group := group, number := k.number, epoch := (s.group group).epoch, mask := k.mask,
    waitLimit := k.waitLimit, since := s.link.cycle, phase := .armed, start := none, waitCount := 0,
    confirmed := k.mask &&& ~~~(maskOf s.own) }

/-- The arming is cancelled (R103): the record is discarded and the station becomes HELD. -/
def State.cancelArming (s : State) : State := (s.setBarrier none).setStation .held

/-- The members of the record that are LOST (R102). -/
def State.lostMembers (s : State) (b : BarrierRec) : List Nat :=
  (s.otherMembers b).filter (fun m => decide ((s.peer m).presence = .lost))

/-- Arming (R90): the record is formed; a member already LOST raises a halt of the group, which cancels
the arming (R102, R103); otherwise the members are read. Where several members are LOST the halt of
the lowest address is taken first, and it is the originator (log 5). -/
def State.arm (s : State) (group : Nat) (k : BarrierBlock) : State :=
  let b := s.armedRecord group k
  let t := (s.setBarrier (some b)).setStation .armed
  match t.lostMembers b with
  | [] => t.readMembers
  | lost => (lost.foldl (fun u m => u.raiseInTable group .peerLost m) t).cancelArming

/-- Re-arming in place after the epoch of the armed group has advanced while CLEAR (R105). -/
def State.rearmForEpoch (s : State) (b : BarrierRec) : State :=
  (s.setBarrier (some { b with
    epoch := (s.group b.group).epoch, since := s.link.cycle, start := none, waitCount := 0,
    confirmed := b.mask &&& ~~~(maskOf s.own) })).readMembers

/-- Re-arming in place after a slip with S absent (R107). -/
def State.rearmForSlip (s : State) (b : BarrierRec) : State :=
  s.setBarrier (some { b with since := s.link.cycle, confirmed := 0 })

/-- A STATUS of a member is taken (R94, R107): it is confirmed again, and the members are read. -/
def State.readStatusOf (s : State) (sender : Nat) : State :=
  match s.barrier with
  | none => s
  | some b =>
    if b.phase = .armed ∧ member b.mask sender ∧ sender ≠ s.own then
      (s.setBarrier (some { b with confirmed := b.confirmed ||| maskOf sender })).readMembers
    else s

/-- The barrier wait has lasted to its limit (R100): ARMED, S absent, a limit that is not 0. -/
def State.waitOver (s : State) : Bool :=
  match s.barrier with
  | none => false
  | some b => decide (b.phase = .armed) && b.start.isNone && decide (b.waitLimit ≠ 0) &&
      decide (b.waitLimit ≤ b.waitCount)

/-- BARRIER_TIMEOUT is raised where R100 calls for it. -/
def State.checkWait (s : State) : State :=
  if s.waitOver then s.recordFault .barrierTimeout none else s

/-- The wait count advances at a new cycle's mark while ARMED with S absent (R100). -/
def State.countWait (s : State) : State :=
  match s.barrier with
  | none => s
  | some b =>
    if b.phase = .armed ∧ b.start = none then
      s.setBarrier (some { b with waitCount := satSucc 65535 b.waitCount })
    else s

end Sys2Proof.Machine
end

