-- ==== Sys2Proof/Config.lean ====
section
/-! DEFINITION. The free values: what the manual leaves open and no proof may know. The station's own
configuration is state (`Settings` in Machine/State.lean), because it is read at run time. -/

namespace Sys2Proof

/-- DESIGN CHOICE (log 16). The byte that stands at a position of a REPORT body whose field carries no
meaning: the tag, cycle and position of an empty fault entry, the tag byte of a fault entry without a
tag, and the originator bits of a group entry without an originator (R188, 13.5). The manual states
no value for them, so the value is free: it depends on which report it is (the count of the reports
assembled) and on the position in the body. -/
opaque Config.openReportByte (report position : Nat) : Byte

/-- DESIGN CHOICE (log 32). The pairs (A, B) of the encoder lines that the Encoder Monitor takes, in
their order, between the write of the home offset and the settle check of a homing (R136). The manual
allows an edge there and does not say when one comes, so the list is free: it depends on which
completion it is (the count of those before it). -/
opaque Config.pairsAtRest (completion : Nat) : List (Bool × Bool)

/-- DESIGN CHOICE (log 11). The conditioned state that an ACTIVE ENC-Z holds after an idle step: still
ACTIVE, or INACTIVE where the line has fallen, a change the manual reports to no block (R150) and the
table gives no row. It depends on which idle step it is (the count of those before it). -/
opaque Config.indexLevel (rest : Nat) : Bool

/-- DESIGN CHOICE (log 36). The followed count that comes after 16,777,215 in a FOLLOW without a count
bound. The manual gives the count its range and says neither that it saturates nor that it wraps
(R139), so the value is free within the range. -/
opaque Config.followedPastTop : BitVec 24

end Sys2Proof
end

