-- ==== Sys2Proof/Machine/Emission.lean ====
section
/-! DEFINITION. The emission of one step at the station (R57): the travel test of a homing before it, the
step itself, and the step reports of R55 after it. What the step brings to its run (the commit
point, the last step, standstill, the next rate) stands in Running.lean. -/

namespace Sys2Proof.Machine

/-- The profile of the active record (R56). -/
def State.activeProfile (s : State) : Profile :=
  match s.seq.active with
  | none => ⟨0, 0, 0, 0⟩
  | some a => a.work.profile

/-! ### The Follow Unit's share of a step (R143, R144, R146) -/

/-- Owed moves one toward 0 for a step in a direction (R143). -/
def owedAfter (owed : Int) : Side → Int
  | .pos => if 0 < owed then owed - 1 else owed
  | .neg => if owed < 0 then owed + 1 else owed

/-- The count of a payment run: the magnitude of owed, cut to the count bound (R143). -/
def Follow.payCount (f : Follow) : Nat :=
  match f.countBound with
  | none => f.owed.natAbs
  | some b => min f.owed.natAbs (b - f.followed)

/-- The followed count after one more step (R139, R143). What comes after the end of its range the manual
does not say: the value is free (log 36). -/
def Follow.counted (f : Follow) : Nat :=
  if f.followed < 16777215 then f.followed + 1 else Config.followedPastTop.toNat

/-- The items of the Follow Unit after a step of its record (R143, R144): `turning` counts the first
step of a turn and is cleared at the second. -/
def Follow.stepped (f : Follow) (d : Side) : Follow :=
  { f with followed := f.counted, lastDir := some d, owed := owedAfter f.owed d,
           turning := match f.turning with | some 0 => some 1 | _ => none }

/-- A step is reported to the Follow Unit (R143). At the second step of a turn it orders the flat run
at Ft for the steps then left, which replaces the slow one (R144). -/
def State.followStep (s : State) : State :=
  let t := s.setFollow (s.follow.stepped s.gen.dir)
  if s.follow.phase = .tracking ∧ s.follow.turning = some 1 ∧ t.follow.payCount ≠ 0 then
    t.setGen (t.gen.orderFlat s.cfg s.gen.dir s.activeProfile s.activeProfile.ft
      (some t.follow.payCount))
  else t

/-- A step is reported to the Homing Controller: travel used counts it (R134). -/
def State.homingStep (s : State) : State :=
  s.setHoming { s.homing with travelUsed := s.homing.travelUsed + 1 }

/-- The step report to the controller of the active record's kind (R55). -/
def State.reportStep (s : State) : State :=
  match s.activeKind with
  | some .home => s.homingStep
  | some .follow => s.followStep
  | some .move => s
  | some .goto => s
  | some .dwell => s
  | none => s

/-- A homing step falls due with travel used at the travel limit (R134). -/
def State.travelSpent (s : State) : Bool :=
  decide (s.activeKind = some .home) && decide (s.homing.travelLimit ≤ s.homing.travelUsed)

/-- The step that is due: a homing past its travel raises HOMING_FAILED in its place (R134, R135);
otherwise it is emitted, the Encoder Monitor judges the following error (R158) and, unless that fault
has ended the run, the step is reported to the record's controller (R55; log 13). -/
def State.emitStep (s : State) : State :=
  if s.travelSpent then s.faultOfActive .homingFailed
  else
    let t := s.checkFollowing (s.setGen s.gen.emit)
    if t.gen.run.isSome then t.reportStep else t

/-- The rate of the next step is fixed, when the run goes on (R57). -/
def State.scheduleNext (s : State) : State := s.setGen s.gen.schedule

/-- The first step of an uncounted run ordered from standstill, emitted within the happening that
orders it (R57). -/
def State.firstStep (s : State) : State := s.emitStep.scheduleNext

end Sys2Proof.Machine
end

