-- ==== Sys2Proof/Machine/Following.lean ====
section
/-! DEFINITION. The Follow Unit (chapter 8): start, conversion, payment, turns, completion and the loss of
the leader. -/

namespace Sys2Proof.Machine

/-- The start of a FOLLOW (R140): the reference is the position in the leader's STATUS. -/
def State.startFollow (s : State) (leader : Nat) (num : Int) (den : Nat) (bound : Option Nat) :
    State :=
  s.setFollow
    { phase := .tracking, leader := leader, num := num, den := den,
      reference := (s.peer leader).status.elim 0 (fun p => p.position), remainder := 0, owed := 0,
      followed := 0, countBound := bound, silence := 0, lastDir := none, turning := none }

/-- Items 1 to 6 of R141: the delta to the new position, converted with the remainder carried. -/
def Follow.convert (f : Follow) (p : Position) : Follow :=
  let t := diff32 p f.reference * f.num + f.remainder
  { f with reference := p, remainder := t - t.tdiv f.den * f.den, owed := f.owed + t.tdiv f.den,
           silence := 0 }

/-- A fault of the Follow Unit itself: the phase becomes CEASED, owed is discarded, and the fault is
reported with the tag of the FOLLOW record (R142, R145). -/
def State.failFollow (s : State) (k : FaultKind) : State :=
  (s.setFollow { s.follow with phase := .ceased, owed := 0, turning := none }).faultOfActive k

/-- The count bound has been reached (R146). -/
def Follow.boundReached (f : Follow) : Bool :=
  match f.countBound with
  | none => false
  | some b => decide (b ≤ f.followed)

/-- A payment run is ordered in a direction at a rate, with the count of R143. -/
def State.orderPayment (s : State) (d : Side) (rate : Nat) : State :=
  s.setGen (s.gen.orderFlat s.cfg d s.activeProfile rate (some s.follow.payCount))

/-- The first step of a payment run, emitted at once (R71); at its last step the generator stands still
and turning is cleared, and the record completes when the bound is reached (R143, R144, R146). -/
def State.paymentEnd (s : State) : State :=
  let t := s.setGen s.gen.ceased
  if s.follow.boundReached then (t.setFollow .reset).completeWork
  else t.setFollow { s.follow with turning := none }

/-- The first step of a payment run and what it brings to the run (R71, R143, R146). -/
def State.payFirst (s : State) : State :=
  let t := s.emitStep
  match t.gen.run with
  | none => t
  | some r => if r.ended then t.paymentEnd else t.scheduleNext

/-- A payment that begins motion in a direction at a rate, from STANDSTILL or as a turn: the limit on
that side is tested first (R145). `turning` says whether it is a turn (R144). -/
def State.beginPayment (s : State) (d : Side) (rate : Nat) (turning : Option Nat) : State :=
  if s.limitActive d then s.failFollow (limitFault d)
  else ((s.setFollow { s.follow with turning := turning }).orderPayment d rate).payFirst

/-- A turn: a flat run in the new direction at Fs (R144). -/
def State.turn (s : State) (d : Side) : State := s.beginPayment d s.activeProfile.fs (some 0)

/-- The immediate stop of a run whose owed has returned to 0 (R143, R144). -/
def State.stopPaying (s : State) : State :=
  (s.setGen s.gen.ceased).setFollow { s.follow with turning := none }

/-- The order that the new owed calls for (R143). -/
def State.pay (s : State) : State :=
  let d := sideOf s.follow.owed
  match s.gen.run with
  | none =>
    if s.follow.owed = 0 then s
    else if s.follow.lastDir = some (opposite d) then s.turn d
    else s.beginPayment d s.activeProfile.ft none
  | some r =>
    if s.follow.owed = 0 then s.stopPaying
    else if s.gen.dir = d then s.orderPayment d r.baseRate
    else s.turn d

/-- A STATUS of the leader is converted (R141), the catch-up test made (R142) and, when it passes and
owed has changed, the payment rules applied (R143). -/
def State.convertLeader (s : State) (p : Position) : State :=
  let t := s.setFollow (s.follow.convert p)
  if t.follow.owed.natAbs > s.cfg.catchUp then t.failFollow .followOverrun
  else if t.follow.owed = s.follow.owed then t
  else t.pay

/-- The Follow Unit tracks (R139): a FOLLOW record runs under no stop. -/
def State.tracking (s : State) : Bool :=
  decide (s.follow.phase = .tracking) && decide (s.station = .running)

/-- The leader is lost (R147): the silence count has reached K, or its entry is LOST. -/
def State.leaderLost (s : State) : Bool :=
  s.tracking && (decide (s.cfg.lossLimit ≤ s.follow.silence) ||
    decide ((s.peer s.follow.leader).presence = .lost))

/-- FOLLOW_LOST (R147): owed and the remainder are discarded and the fault raised. -/
def State.loseLeader (s : State) : State :=
  (s.setFollow { s.follow with remainder := 0 }).failFollow .followLost

/-- FOLLOW_LOST is raised where R147 calls for it. -/
def State.checkLeader (s : State) : State := if s.leaderLost then s.loseLeader else s

end Sys2Proof.Machine
end

