-- ==== Sys2Proof/Machine/Counting.lean ====
section
/-! DEFINITION. The Encoder Monitor's counting (09 section 9.5): the edges of a change of the pair, the
count through the divisor, and what a counted edge does to the following error and a settling record. -/

namespace Sys2Proof.Machine

/-- A direction under the direction sense (R155). -/
def Settings.sensed (c : Settings) (d : Side) : Side := if c.reversed then opposite d else d

/-- Both members of the pair change (R155). -/
def doubleChange (old new : Bool × Bool) : Bool := decide (old.1 ≠ new.1) && decide (old.2 ≠ new.2)

/-- Positive when a condition holds, negative otherwise. -/
def posWhen (c : Bool) : Side := if c then .pos else .neg

/-- The edges counted for a single change, with their directions under NORMAL (R155). -/
def singleEdges (mode : EncoderMode) (old new : Bool × Bool) : List Side :=
  let aMoved := decide (old.1 ≠ new.1)
  let bMoved := decide (old.2 ≠ new.2)
  match mode with
  | .off => []
  | .quad1 => if aMoved && new.1 then [posWhen (!new.2)] else []
  | .quad2 => if aMoved then [posWhen (new.1 != new.2)] else []
  | .quad4 =>
    if aMoved then [posWhen (new.1 != new.2)]
    else if bMoved then [posWhen (new.1 == new.2)] else []
  | .upDown => if aMoved && new.1 then [.pos] else if bMoved && new.2 then [.neg] else []

/-- The modes in which a double change is an error (R156). -/
def EncoderMode.quadrature : EncoderMode → Bool
  | .off => false
  | .quad1 => true
  | .quad2 => true
  | .quad4 => true
  | .upDown => false

/-- One counted edge: the edge remainder, and the position when it reaches the divisor (R157). -/
def Encoder.edge (e : Encoder) (divisor : Nat) : Side → Encoder
  | .pos =>
    if (divisor : Int) ≤ e.remainder + 1 then { e with position := e.position + 1, remainder := 0 }
    else { e with remainder := e.remainder + 1 }
  | .neg =>
    if e.remainder - 1 ≤ -(divisor : Int) then { e with position := e.position - 1, remainder := 0 }
    else { e with remainder := e.remainder - 1 }

/-- The two edges of a double change in UP/DOWN mode, `up` being the direction of the edge up under the
direction sense: the edge up first, unless only the other order leaves the count where it was (R155,
log 12). -/
def Encoder.bothEdges (e : Encoder) (divisor : Nat) (up : Side) : List Side :=
  if (e.edge divisor up).edge divisor (opposite up) = e then [up, opposite up] else [opposite up, up]

/-- One counted edge at the station: where it moves the encoder position, the following error is judged
(R158) and a settling record tested (R159). -/
def State.countEdge (s : State) (d : Side) : State :=
  let t := s.setEncoder (s.encoder.edge s.cfg.divisor d)
  if t.encoder.position = s.encoder.position then t else (s.checkFollowing t).settleTest

/-- The edges of one change, one after the other (R155). -/
def State.countEdges (s : State) (ds : List Side) : State := ds.foldl State.countEdge s

/-- The pair last taken; unset, there is none to judge a change from but the conditioned states. -/
def State.lastPair (s : State) : Bool × Bool := s.encoder.pair.getD (s.drive.encA, s.drive.encB)

/-- The new pair is taken, by the Drive Interface and as the pair last taken (R150, R155). -/
def State.takePair (s : State) (a b : Bool) : State :=
  (s.setDrive { s.drive with encA := a, encB := b }).setEncoder { s.encoder with pair := some (a, b) }

/-- The edges that a change of the pair counts, in their order and with their directions under the
direction sense (R155); a double change counts none in a quadrature mode (R156). -/
def State.edgesOf (s : State) (old new : Bool × Bool) : List Side :=
  if doubleChange old new then
    if s.cfg.encoderMode = .upDown then
      s.encoder.bothEdges s.cfg.divisor (s.cfg.sensed .pos)
    else []
  else (singleEdges s.cfg.encoderMode old new).map s.cfg.sensed

/-- A change of the pair (R155, R156). -/
def State.pairChange (s : State) (a b : Bool) : State :=
  let t := (s.takePair a b).countEdges (s.edgesOf s.lastPair (a, b))
  if doubleChange s.lastPair (a, b) && s.cfg.encoderMode.quadrature then t.faultOfActive .encoderError
  else t

/-- The pair becomes this one: a change of it when it differs from the conditioned states (R150). -/
def State.pairBecomes (s : State) (p : Bool × Bool) : State :=
  if (s.drive.encA, s.drive.encB) = p then s else s.pairChange p.1 p.2

/-- The edges that the Encoder Monitor counts as the axis comes to rest at the completion of a homing,
between the write of the home offset and the settle check (R136, R157). The manual does not say
whether there are any, so the pairs that are taken there are a free value (log 32). -/
def State.comeToRest (s : State) : State :=
  (Config.pairsAtRest s.restCount).foldl State.pairBecomes (s.setRestCount (s.restCount + 1))

end Sys2Proof.Machine
end

