-- ==== Sys2Proof/Machine/Homing.lean ====
section
/-! DEFINITION. The Homing Controller (chapter 7): the entry of each phase, the exits, the judgement of
limits and the completion. The station is RUNNING with an active HOME record throughout, unless a
rule says otherwise. -/

namespace Sys2Proof.Machine

/-- HOMING_FAILED is raised with the tag of the HOME record (R135). -/
def State.failHoming (s : State) : State := s.faultOfActive .homingFailed

/-- The Homing Controller with a phase entered: its leg MOVING (R129). -/
def State.setPhase (s : State) (p : HomingPhase) : State :=
  s.setHoming { s.homing with phase := p, leg := .moving }

/-- The phase's exit has been taken (R127, R129). -/
def State.ending (s : State) : State := s.setHoming { s.homing with leg := .ending }

/-- An open run of a seek phase in a direction, its first step emitted at once (R70, R129). -/
def State.seekRun (s : State) (d : Side) : State :=
  (s.setGen (s.gen.orderOpen s.cfg d s.activeProfile)).firstStep

/-- The flat run of APPROACH and INDEX at Fs in direction d (R132). -/
def State.creepRun (s : State) : State :=
  (s.setGen (s.gen.orderFlat s.cfg s.homing.dir s.activeProfile s.activeProfile.fs none)).firstStep

/-- The entry of REVERSE_SEEK or CLEAR, both opposite to d (R129, R131). -/
def State.enterAway (s : State) (p : HomingPhase) : State :=
  let t := s.setHoming { s.homing with phase := p, leg := .moving, homeSeen := s.drive.home }
  if s.limitActive (opposite s.homing.dir) then t.failHoming
  else t.seekRun (opposite s.homing.dir)

/-- The entry of SEEK: with the limit on side d active, REVERSE_SEEK in its place (R129). -/
def State.enterSeek (s : State) : State :=
  if s.limitActive s.homing.dir then s.enterAway .reverseSeek
  else (s.setPhase .seek).seekRun s.homing.dir

/-- Both positions are written and the edge remainder set to 0 (R51, R136). -/
def State.writePositions (s : State) (p : Position) : State :=
  (s.setGen { s.gen with position := p }).setEncoder { s.encoder with position := p, remainder := 0 }

/-- The homing completes at the immediate stop of its last exit (R136). The writes make the following
error 0, so the evaluation of R158 at them raises nothing. Before the settle check of a record that
settles, edges may be counted against the written position (log 32). -/
def State.completeHoming (s : State) : State :=
  let t := (s.setGen s.gen.ceased).writePositions s.homing.offset
  let u := (t.setSeq { t.seq with homed := true }).setHoming .reset
  if u.settlesAtEnd then u.comeToRest.completeWork else u.completeWork

/-- The entry of INDEX from a moving APPROACH: the flat run goes on (R132). -/
def State.enterIndexMoving (s : State) : State :=
  let t := s.setPhase .index
  if s.limitActive s.homing.dir then t.failHoming else t

/-- The entry of INDEX from an exit taken at the entry of APPROACH: the flat run is ordered (R132). -/
def State.enterIndexStanding (s : State) : State :=
  let t := s.setPhase .index
  if s.limitActive s.homing.dir then t.failHoming else t.creepRun

/-- The entry of APPROACH (R129, R132): the entry test, then the exit at the entry when HOME is active,
then the flat run. -/
def State.enterApproach (s : State) : State :=
  let t := s.setPhase .approach
  if s.limitActive s.homing.dir then t.failHoming
  else if s.drive.home then
    if s.homing.indexRemaining = 0 then t.completeHoming else t.enterIndexStanding
  else t.creepRun

/-- The motion of a phase ends and the next phase is entered (R129). -/
def State.phaseEnd (s : State) : State :=
  let t := s.setGen s.gen.ceased
  match s.homing.phase with
  | .seek => t.enterAway .clear
  | .reverseSeek => t.enterApproach
  | .clear => t.enterApproach
  | .approach => t
  | .index => t
  | .none => t

/-- The decelerating stop of a phase, which carries no disposition (R129): at standstill at once, or
braking while the station stays RUNNING. At standstill at once the next phase is entered within the
happening, and a limit taken together with the edge is then judged in that phase (log 33). -/
def State.phaseBrake (s : State) : State :=
  if s.gen.stopsAtOnce then s.phaseEnd else s.setGen s.gen.brake

/-- The clearance at the exit of REVERSE_SEEK or CLEAR (R131). -/
def State.clearance (s : State) : State :=
  if s.cfg.clearance = 0 then s.ending.phaseBrake
  else s.ending.setGen (s.gen.setCount s.cfg.clearance)

/-- The start of a HOME (R128). -/
def State.startHoming (s : State) (d : Side) (indexCount : Nat) (offset : Position)
    (bound : Option Nat) : State :=
  let t := (s.setSeq { s.seq with homed := false }).setHoming
    { phase := .none, leg := .moving, dir := d, homeSeen := false, indexRemaining := indexCount,
      travelUsed := 0, travelLimit := bound.getD maxDistance, offset := offset }
  if s.drive.home then t.enterAway .clear
  else if s.limitActive d then t.enterAway .reverseSeek
  else t.enterSeek

/-- A HOME record is active and the controller runs its phases: no outside stop has begun (R137). -/
def State.homingRuns (s : State) : Bool :=
  decide (s.activeKind = some .home) && decide (s.station = .running)

/-- HOME becomes ACTIVE (R130 to R132). -/
def State.homeActive (s : State) : State :=
  match s.homing.phase, s.homing.leg with
  | .seek, .moving => s.ending.phaseBrake
  | .reverseSeek, .moving => s.setHoming { s.homing with homeSeen := true }
  | .clear, .moving => s.setHoming { s.homing with homeSeen := true }
  | .approach, _ => if s.homing.indexRemaining = 0 then s.completeHoming else s.enterIndexMoving
  | .seek, .ending => s
  | .reverseSeek, .ending => s
  | .clear, .ending => s
  | .index, _ => s
  | .none, _ => s

/-- HOME becomes INACTIVE (R131). -/
def State.homeInactive (s : State) : State :=
  match s.homing.phase, s.homing.leg with
  | .reverseSeek, .moving => if s.homing.homeSeen then s.clearance else s
  | .clear, .moving => if s.homing.homeSeen then s.clearance else s
  | .reverseSeek, .ending => s
  | .clear, .ending => s
  | .seek, _ => s
  | .approach, _ => s
  | .index, _ => s
  | .none, _ => s

/-- A limit becomes ACTIVE while the controller runs its phases (R130, R133). -/
def State.homingLimit (s : State) (side : Side) : State :=
  match s.homing.phase, s.homing.leg with
  | .seek, .moving =>
    if side = s.homing.dir then (s.ending.setGen s.gen.ceased).enterAway .reverseSeek else s
  | .seek, .ending =>
    if side = s.homing.dir then (s.setGen s.gen.ceased).enterAway .clear else s
  | .reverseSeek, _ => s.failHoming
  | .clear, _ => s.failHoming
  | .approach, _ => s.failHoming
  | .index, _ => s.failHoming
  | .none, _ => s

/-- A limit becomes ACTIVE while a HOME record is active (R133): the phases judge it, or, under a stop
of R46, the direction of the run being braked. -/
def State.judgeHomingLimit (s : State) (side : Side) : State :=
  if s.station = .running then s.homingLimit side
  else if s.station = .stopping ∧ s.gen.dir = side then s.failHoming
  else s

/-- An index edge is taken in INDEX (R132). -/
def State.countIndex (s : State) : State :=
  if s.homing.phase = .index then
    let t := s.setHoming { s.homing with indexRemaining := s.homing.indexRemaining - 1 }
    if s.homing.indexRemaining ≤ 1 then t.completeHoming else t
  else s

end Sys2Proof.Machine
end

