-- ==== Sys2Proof/Machine/Running.lean ====
section
/-! DEFINITION. What a run brings to its record (chapters 2 and 3): the commit point and the binding
(R40 to R42, R63, R64), the last step and the handover (R35, R43, R65), standstill (R66), and the start
of a candidate (R33, R34). None of these runs dispatch. -/

namespace Sys2Proof.Machine

/-! ### The candidate (R29) -/

/-- Where the candidate stands. -/
inductive Source where
  | queueHead | stackTop
  deriving DecidableEq, Repr

/-- The candidate of dispatch (R29). -/
def State.candidate (s : State) : Option (Source × Work) :=
  match s.queue.entries, s.stack.residuals with
  | [], [] => none
  | [], r :: _ => some (.stackTop, .residual r)
  | e :: _, [] => some (.queueHead, .segment e)
  | e :: _, r :: _ =>
    if e.insert then some (.queueHead, .segment e) else some (.stackTop, .residual r)

/-! ### The commit point (R41, R42, R64) -/

/-- The position at which the running record will end (R41 item 6). -/
def State.endPosition (s : State) : Position :=
  match s.gen.run with
  | none => s.gen.position
  | some r => s.gen.position + BitVec.ofInt 32 (s.gen.remaining r)

/-- Items 2, 6 and 7 of R41 on the body of the queue head. -/
def State.bodyQualifies (s : State) : Body → Bool
  | .move n => decide (n ≠ 0) && decide (sideOf n = s.gen.dir)
  | .goto target =>
    let d := diff32 target s.endPosition
    decide (d ≠ 0) && decide (sideOf d = s.gen.dir) && s.seq.homed && decide (d.natAbs ≤ maxDistance)
  | .home _ _ _ _ => false
  | .dwell _ => false
  | .follow _ _ _ _ => false

/-- The entry that qualifies as a successor (R41), when there is one. -/
def State.successor (s : State) : Option QueueEntry :=
  match s.queue.entries, s.stack.residuals with
  | e :: _, [] =>
    if !e.insert && e.barrier.isNone && !s.groupHalted e.group && !s.seq.paused &&
        s.bodyQualifies e.body then some e
    else none
  | _, _ => none

/-- The next candidate carries a barrier block (R42). -/
def State.nextHasBarrier (s : State) : Bool :=
  match s.candidate with
  | none => false
  | some (_, w) => w.barrier.isSome

/-- The head of the queue is marked BOUND (R8). -/
def markHead : List QueueEntry → List QueueEntry
  | [] => []
  | e :: es => { e with bound := true } :: es

/-- The commit point (R41, R42, R64): a successor that qualifies is bound and the end rate becomes the
handover rate; otherwise the chain break is counted, unless a barrier segment comes next. -/
def State.commitPoint (s : State) : State :=
  let t := s.setGen s.gen.unwatched
  match s.successor with
  | some e =>
    ((t.setQueue { t.queue with entries := markHead t.queue.entries }).setActive
      (t.seq.active.map (fun a => { a with bound := some e }))).setGen
      (t.gen.setEndRate (min s.activeProfile.ft e.profile.ft))
  | none =>
    if s.nextHasBarrier then t
    else t.setSeq { t.seq with chainBreaks := satSucc 255 t.seq.chainBreaks }

/-! ### Forming and starting a record (R33, R34) -/

/-- The active record is formed and the station RUNNING (R33 items 2 and 4). -/
def State.formRecord (s : State) (w : Work) : State :=
  s.setSeq { s.seq with
    station := .running
    active := some { work := w, disposition := none, faultEnded := false, reserved := false,
                     bound := none, dwellEnd := none } }

/-- The signed distance of a MOVE or GOTO at its start (R33, R69); 0 for the other kinds. -/
def State.distance (s : State) : Work → Int
  | .segment e =>
    match e.body with
    | .move n => n
    | .goto target => diff32 target s.gen.position
    | .home _ _ _ _ => 0
    | .dwell _ => 0
    | .follow _ _ _ _ => 0
  | .residual r =>
    match r.remaining with
    | .move n => n
    | .goto target => diff32 target s.gen.position
    | .dwell _ => 0

/-- The limit check of R34: the distance is not 0 and the limit toward the first step is active. -/
def State.limitCheck (s : State) (n : Int) : Option FaultKind :=
  if n ≠ 0 ∧ s.limitActive (sideOf n) then some (limitFault (sideOf n)) else none

/-- The leader's entry is PRESENT and holds a STATUS (R34). -/
def State.leaderReady (s : State) (leader : Nat) : Bool :=
  decide ((s.peer leader).presence = .present) && (s.peer leader).status.isSome

/-- The leader of a FOLLOW body. -/
def Work.leader : Work → Option Nat
  | .segment e =>
    match e.body with
    | .follow leader _ _ _ => some leader
    | .move _ => none
    | .goto _ => none
    | .home _ _ _ _ => none
    | .dwell _ => none
  | .residual _ => none

/-- The start checks, in their order: the fault of the first that fails (R34). -/
def State.startFault (s : State) (w : Work) : Option FaultKind :=
  match w.kind with
  | .goto =>
    if !s.seq.homed then some .notHomed
    else if maxDistance < (s.distance w).natAbs then some .range
    else s.limitCheck (s.distance w)
  | .move => s.limitCheck (s.distance w)
  | .follow =>
    match w.leader with
    | none => none
    | some l => if s.leaderReady l then none else some .followLost
  | .home => none
  | .dwell => none

/-- A counted run is ordered for the record (R60); a short run of a CHAIN record reports its commit
point at the order (R63). -/
def State.orderRun (s : State) (w : Work) (n : Int) (f0 : Nat) : State :=
  let t := s.setGen (s.gen.orderCounted s.cfg n.natAbs (sideOf n) w.profile f0 w.chain)
  if w.chain && shortRun n.natAbs f0 w.profile then t.commitPoint else t

/-- A bound entry starts at the handover from the handover rate (R43, R65). The limit check is made
again; a GOTO's distance is found again (R69), and one of 0, which the binding rules out, would complete
at once (R35). In a HALTED group the record is stopped at once. -/
def State.startChained (s : State) (w : Work) (fh : Nat) : State :=
  let t := s.formRecord w
  match t.startFault w with
  | some k => t.recordFault k (some w.tag)
  | none =>
    if t.distance w = 0 then (t.setGen t.gen.ceased).completeWork
    else
      let u := t.orderRun w (t.distance w) fh
      if u.groupHalted w.group then u.stopForHalt else u

/-- The handover (R43): the running record ends DONE, the bound entry leaves the queue without its
mark, and starts with the generator in motion. -/
def State.handover (s : State) (fh : Nat) : State :=
  match s.queue.entries with
  | [] => s.completeWork
  | e :: es =>
    let t := s.endRecord .done
    let u := (t.setQueue { t.queue with entries := es }).setGen
      { t.gen with phase := s.gen.phase, rate := s.gen.rate }
    u.startChained (.segment { e with bound := false }) fh

/-! ### The last step and standstill (R35, R65, R66, R137, R148) -/

/-- The last step of a MOVE or GOTO (R35, R43, R65). -/
def State.lastCounted (s : State) (a : Active) (r : Run) : State :=
  if a.bound.isSome && !a.faultEnded then s.handover r.endRate
  else (s.setGen s.gen.ceased).completeWork

/-- The last step of a payment run (R143, R146, R148). -/
def State.lastPayment (s : State) (a : Active) : State :=
  if s.follow.boundReached ∨ a.disposition = none then s.paymentEnd else s.reachStandstill

/-- The last step of a clearance run (R131), or of one braking under an outside stop (R137). -/
def State.lastClearance (s : State) : State :=
  if s.station = .running then s.phaseEnd else s.reachStandstill

/-- The last step of a run is reported to the block that gave it (R55, R65). -/
def State.lastStep (s : State) (r : Run) : State :=
  match s.seq.active with
  | none => s.setGen s.gen.ceased
  | some a =>
    match a.work.kind with
    | .move => s.lastCounted a r
    | .goto => s.lastCounted a r
    | .home => s.lastClearance
    | .follow => s.lastPayment a
    | .dwell => s.setGen s.gen.ceased

/-- Standstill of a braking run is reported (R66): to the Homing Controller when a phase ordered the
stop, and to the Motion Sequencer otherwise. -/
def State.standstill (s : State) : State :=
  if s.homingRuns then s.phaseEnd else s.reachStandstill

/-- What an emitted step brings to its run: the last step (R65), standstill at Fs (R66), or the commit
point (R63) and then the deceleration test and the next rate (R62). -/
def State.afterStep (s : State) : State :=
  match s.gen.run with
  | none => s
  | some r =>
    if r.ended then s.lastStep r
    else if s.gen.phase = .braking ∧ s.gen.rate ≤ r.profile.fs then s.standstill
    else if s.gen.commitDue then s.commitPoint.scheduleNext
    else s.scheduleNext

/-- A step falls due: it is emitted and brings about what it does (R57). -/
def State.stepRun (s : State) : State := s.emitStep.afterStep

/-! ### Starting from standstill (R33) -/

/-- A MOVE or GOTO that passed its checks: a distance of 0 completes at once (R35); any other is
ordered from Fs and emits its first step within the start (R57, R60). -/
def State.startCounted (s : State) (w : Work) : State :=
  if s.distance w = 0 then s.completeWork
  else (s.orderRun w (s.distance w) w.profile.fs).stepRun

/-- The dwell end is set: the current cycle number plus the cycles (R38, R85). -/
def State.startDwell (s : State) (cycles : Nat) : State :=
  s.setActive (s.seq.active.map (fun a =>
    { a with dwellEnd := some (s.link.cycle + BitVec.ofNat 16 cycles) }))

/-- The work is handed to the block that executes its kind (R33). -/
def State.handWork (s : State) (w : Work) : State :=
  match w with
  | .segment e =>
    match e.body with
    | .move _ => s.startCounted w
    | .goto _ => s.startCounted w
    | .home d n offset bound => s.startHoming d n offset bound
    | .dwell n => s.startDwell n
    | .follow leader num den bound => s.startFollow leader num den bound
  | .residual r =>
    match r.remaining with
    | .move _ => s.startCounted w
    | .goto _ => s.startCounted w
    | .dwell n => s.startDwell n

/-- The candidate leaves the queue or the stack (R10, R82). -/
def State.takeCandidate (s : State) : Source → State
  | .queueHead => s.setQueue { s.queue with entries := s.queue.entries.tail }
  | .stackTop => s.setStack { s.stack with residuals := s.stack.residuals.tail }

/-- The start of a candidate from standstill (R33, R34): it leaves its place, the record is formed, the
checks are made, and its work is handed over. -/
def State.startCandidate (s : State) (src : Source) (w : Work) : State :=
  let t := (s.takeCandidate src).formRecord w
  match t.startFault w with
  | some k => t.recordFault k (some w.tag)
  | none => t.handWork w

end Sys2Proof.Machine
end

