-- ==== Sys2Proof/Machine/Dispatching.lean ====
section
/-! DEFINITION. Dispatch (R28 to R31): the gates, one run of dispatch, and dispatch as part of a happening
in which the station enters IDLE. -/

namespace Sys2Proof.Machine

/-- The outcome of the gates for a candidate (R30). -/
inductive Gate where
  | idle | held | arm (k : BarrierBlock) | start
  deriving DecidableEq, Repr

/-- The gates, in their order (R30). -/
def State.gate (s : State) (w : Work) : Gate :=
  if s.seq.paused && !w.insert then .idle
  else if s.groupHalted w.group then .held
  else if s.holdoffRunning then .idle
  else
    match w.barrier with
    | some k => .arm k
    | none => .start

/-- One choice and gating (R29, R30). -/
def State.dispatchOnce (s : State) : State :=
  match s.candidate with
  | none => s.setStation .idle
  | some (src, w) =>
    match s.gate w with
    | .idle => s.setStation .idle
    | .held => s.setStation .held
    | .arm k => s.arm w.group k
    | .start => s.startCandidate src w

/-- Dispatch lets its candidate start (R30 row 5). -/
def State.dispatchStarts (s : State) : Bool :=
  match s.candidate with
  | none => false
  | some (_, w) => decide (s.gate w = .start)

/-- Dispatch repeated while a record that it starts ends within its own start and the station enters IDLE
anew (R28, R35). Each start takes an entry away, so as many rounds as there are entries suffice. -/
def State.dispatchRounds : Nat → State → State
  | 0, s => s
  | n + 1, s =>
    if s.dispatchStarts && decide (s.dispatchOnce.station = .idle) then
      dispatchRounds n s.dispatchOnce
    else s.dispatchOnce

/-- Dispatch (R28): it runs in IDLE and HELD only. -/
def State.dispatch (s : State) : State :=
  if s.station = .idle ∨ s.station = .held then
    dispatchRounds (s.queue.entries.length + s.stack.residuals.length + 1) s
  else s

/-- A happening in which the station enters IDLE from another state ends with dispatch (R28). -/
def State.enterIdle (before after : State) : State :=
  if after.station = .idle ∧ before.station ≠ .idle then after.dispatch else after

end Sys2Proof.Machine
end

