-- ==== Sys2Proof/Machine/Notices.lean ====
section
/-! DEFINITION. What a change of group state does to the station (R123, R124), and the claims that carry
it: a raised halt, an adopted vector, a RELEASE, the loss of a barrier member, joining, the new
cycle. -/

namespace Sys2Proof.Machine

/-- Group `g` becomes HALTED at the station (R123). -/
def State.groupBecameHalted (s : State) (g : Nat) : State :=
  match s.station with
  | .running =>
    if s.seq.active.any (fun a => decide (a.work.group = g)) then s.enterIdle s.stopForHalt else s
  | .armed => if s.barrier.any (fun b => decide (b.group = g)) then s.cancelArming else s
  | .idle => s.dispatch
  | .held => s.dispatch
  | .stopping => s
  | .settling => s
  | .faulted => s
  | .offline => s

/-- Group `g` becomes CLEAR, or changes its epoch while CLEAR, at the station (R105, R124). -/
def State.groupBecameClear (s : State) (g : Nat) : State :=
  match s.station with
  | .idle => s.dispatch
  | .held => s.dispatch
  | .armed =>
    match s.barrier with
    | none => s
    | some b => if b.group = g ∧ b.epoch ≠ (s.group g).epoch then s.rearmForEpoch b else s
  | .running => s
  | .stopping => s
  | .settling => s
  | .faulted => s
  | .offline => s

/-- A change of a group's state is told to the Motion Sequencer and the Barrier Unit (R112). -/
def State.groupChanged (s : State) (g : Nat) : State :=
  match (s.group g).condition with
  | .halted => s.groupBecameHalted g
  | .clear => s.groupBecameClear g

/-- A changed table is told, group by group, where the group state has moved since `before` (R112,
R119). -/
def State.tellChanges (before after : State) : State :=
  (groupNumbers.filter (fun g => (before.group g).moved (after.group g))).foldl State.groupChanged after

/-- A halt is raised and its change told (R114, R116, R117). -/
def State.raiseHalt (s : State) (g : Nat) (cause : Cause) (originator : Nat) : State :=
  s.tellChanges (s.raiseInTable g cause originator)

/-- A peer's vector is adopted and its changes told (R119). -/
def State.adopt (s : State) (p : PeerStatus) (peer : Nat) : State :=
  s.tellChanges (s.hearVector p peer)

/-- A RELEASE acts on its group and its change is told (R121). -/
def State.releaseGroup (s : State) (g : Nat) (e : Epoch) (sender : Nat) : State :=
  s.tellChanges (s.setGroup g ((s.group g).release e sender s.link.cycle))

/-! ### Joining (R27, R169) -/

/-- The join is reported to the sequencer: it enters IDLE, with the level tests, and dispatch runs. -/
def State.join (s : State) : State := s.enterIdle (s.setStation .idle).levelTests

/-! ### The parts of a new cycle -/

/-- The Barrier Unit's watch of a lost address (R102): in either phase, a member other than the own. -/
def State.memberLost (s : State) (a : Nat) : State :=
  match s.barrier with
  | none => s
  | some b =>
    if member b.mask a ∧ a ≠ s.own then s.raiseHalt b.group .peerLost a else s

/-- The Follow Unit's watch of a lost address (R147). -/
def State.followerLost (s : State) (a : Nat) : State :=
  if s.follow.leader = a then s.checkLeader else s

/-- An entry whose miss count has reached K becomes LOST, and the Barrier Unit and the Follow Unit are
told (R176), the Barrier Unit first (log 5). -/
def State.losePeer (s : State) (a : Nat) : State :=
  if s.lossDue a then
    ((s.setPeer a { s.peer a with presence := .lost }).memberLost a).followerLost a
  else s

/-- Miss counting at a new-cycle mark (R176): every entry is judged, then each loss is signalled. -/
def State.countMisses (s : State) : State :=
  (List.range 32).foldl State.losePeer s.judgePeers

/-- The station is ARMED with S known and the current cycle number is S (R99). -/
def State.startDue (s : State) : Bool :=
  decide (s.station = .armed) &&
    (match s.barrier with
     | none => false
     | some b => decide (b.phase = .armed) && decide (b.start = some s.link.cycle))

/-- At the mark numbered S the candidate starts and the phase becomes STARTED (R33, R92, R99). -/
def State.startBarrier (s : State) : State :=
  match s.candidate, s.barrier with
  | some (src, w), some b =>
    s.enterIdle ((s.setBarrier (some { b with phase := .started })).startCandidate src w)
  | _, _ => s

/-- The barrier start where R99 calls for it. -/
def State.checkStart (s : State) : State := if s.startDue then s.startBarrier else s

/-- The active record is a running DWELL (R38). -/
def State.dwellRuns (s : State) : Bool :=
  decide (s.station = .running) && decide (s.activeKind = some .dwell)

/-- A running DWELL whose dwell end is the current cycle number (R38). -/
def State.dwellOver (s : State) : Bool :=
  s.dwellRuns && s.seq.active.any (fun a => decide (a.dwellEnd = some s.link.cycle))

/-- The DWELL ends DONE where R38 calls for it. -/
def State.checkDwell (s : State) : State :=
  if s.dwellOver then s.enterIdle (s.endRecord .done) else s

/-- The settle count has reached the settle timeout while the station is SETTLING (R160). -/
def State.settleOver (s : State) : Bool :=
  decide (s.station = .settling) &&
    (match s.encoder.settle with | none => false | some n => decide (s.cfg.settleTimeout ≤ n))

/-- SETTLE_TIMEOUT is raised where R160 calls for it. -/
def State.checkSettle (s : State) : State :=
  if s.settleOver then s.faultOfActive .settleTimeout else s

/-- The settle count rises by one (R160). -/
def State.countSettle (s : State) : State :=
  s.setEncoder { s.encoder with settle := s.encoder.settle.map (· + 1) }

/-- The silence count rises by one (R147). -/
def State.countSilence (s : State) : State :=
  s.setFollow { s.follow with silence := s.follow.silence + 1 }

/-- Which block's count a mark will advance: the one whose work was under way when the mark came. The
four exclude each other, since each goes with a station state or a kind of its own (log 5, 6). -/
inductive MarkWork where
  | none | barrier | dwell | settle | follow
  deriving DecidableEq, Repr

/-- The block that counts marks at the moment a mark comes. -/
def State.markWork (s : State) : MarkWork :=
  if s.station = .armed then .barrier
  else if s.dwellRuns then .dwell
  else if s.station = .settling then .settle
  else if s.tracking then .follow
  else .none

/-- A slip is signalled to the Barrier Unit (R106, R107). -/
def State.slipBarrier (s : State) : State :=
  match s.barrier with
  | none => s
  | some b =>
    if b.phase = .started then s
    else if b.start.isSome then s.recordFault .cycleSlip none
    else s.rearmForSlip b

/-- A new-cycle mark reaches the Barrier Unit: the mark numbered S (R99) or the wait count (R100); a
slipped mark by R106 and R107. -/
def State.markBarrier (s : State) (slip : Bool) : State :=
  if slip then s.slipBarrier
  else if s.startDue then s.startBarrier
  else s.countWait.checkWait

/-- A new-cycle mark reaches a running DWELL (R38); a slip faults it. -/
def State.markDwell (s : State) (slip : Bool) : State :=
  if slip then s.faultOfActive .cycleSlip else s.checkDwell

/-- The new cycle is signalled to the blocks that count marks (R167). A DWELL is judged first, the Peer
Table then counts its misses, and the count of the block whose work was under way is advanced if
that work still is (log 5). A FOLLOW is the same one as before while its barrier record is: a loss that
ends it discards that record (R93), and one that dispatch starts in its place does not count the mark
(log 6). -/
def State.signalCycle (s : State) (slip : Bool) : State :=
  match s.markWork with
  | .dwell => (s.markDwell slip).countMisses
  | .barrier =>
    let t := s.countMisses
    if t.station = .armed then t.markBarrier slip else t
  | .settle =>
    let t := s.countMisses
    if t.station = .settling then t.countSettle.checkSettle else t
  | .follow =>
    let t := s.countMisses
    if t.tracking && decide (t.barrier = s.barrier) then t.countSilence.checkLeader else t
  | .none => s.countMisses

/-- The mark timer restarts while JOINED (R166, R167), and the slot timing restarts (R163). -/
def State.restartTiming (s : State) : State :=
  s.setLink { s.link with
    slotTiming := true
    markTimer := if s.link.state = .joined then some s.markTimerLength else none }

/-- A new cycle opened by a mark: the number is taken, the timing restarts, a joining cycle is over, a
slip is counted, and the cycle is signalled (R166, R167, R169, R180). -/
def State.newCycle (s : State) (m : Cycle) (slip : Bool) : State :=
  let t := s.restartTiming
  (t.setLink { t.link with
    cycle := m
    slotPasses := false
    cycleSlips := if slip then satSucc 255 t.link.cycleSlips else t.link.cycleSlips }).signalCycle slip

end Sys2Proof.Machine
end

