-- ==== Sys2Proof/Machine/Segments.lean ====
section
/-! DEFINITION. The messages of the Segment Queue (chapter 1; 04 section 4.2): SEGMENT and FLUSH. -/

namespace Sys2Proof.Machine

/-- A message other than STATUS is handed to its owner (R171): the link is JOINED and the destination is
the own address or ALL. -/
def State.takes (s : State) (dest : Byte) : Bool :=
  decide (s.link.state = .joined) && (decide (dest.toNat = s.own) || decide (dest = destAll))

/-! ### SEGMENT -/

/-- The place of an entry (R13): an INSERT after the run of INSERT entries at the head, any other at the
tail. -/
def placeEntry (e : QueueEntry) : List QueueEntry → List QueueEntry
  | [] => [e]
  | x :: xs => if e.insert && !x.insert then e :: x :: xs else x :: placeEntry e xs

/-- An INSERT accepted now preempts the active record (R78): RUNNING a MOVE, GOTO or DWELL. -/
def State.preempts (s : State) : Bool :=
  decide (s.station = .running) &&
    (match s.activeKind with | none => false | some k => k.suspendable)

/-- The acceptance conditions of an INSERT (R77): the reason that refuses it, if any. -/
def State.insertRefusal (s : State) : Option Reason :=
  match s.station with
  | .running =>
    if s.preempts then
      if s.stack.residuals.length + 1 ≤ 3 then none else some .stackFull
    else some .notSuspendable
  | .armed => some .armed
  | .offline => none
  | .idle => none
  | .held => none
  | .stopping => none
  | .settling => none
  | .faulted => none

/-- The reason that refuses a current segment whose record is well made, if any (R14 items 2 and 3). -/
def State.acceptRefusal (s : State) (e : QueueEntry) : Option Reason :=
  if 16 ≤ s.queue.entries.length then some .queueFull
  else if e.insert then s.insertRefusal
  else none

/-- Acceptance (R15): the entry is placed, the expected tag advances, FRESH is cleared; an INSERT that
preempts stops the active record; the queue change gives dispatch its occasion. -/
def State.accept (s : State) (e : QueueEntry) : State :=
  let t := s.setQueue { s.queue with
    entries := placeEntry e s.queue.entries, expected := s.queue.expected + 1, fresh := false }
  if e.insert && s.preempts then t.enterIdle (t.beginStop .preempt false false)
  else t.dispatch

/-- A current SEGMENT is checked in the order of R14. -/
def State.takeCurrent (s : State) (body : List Byte) : State :=
  match segmentOf s.own s.cfg.span s.cfg.defaultProfile body with
  | none => s.refuse .segment (some (byteAt body 0)) .badField
  | some e =>
    match s.acceptRefusal e with
    | some r => s.refuse .segment (some e.tag) r
    | none => s.accept e

/-- A SEGMENT reaches the Segment Queue (R12): too short, current, duplicate or gap. -/
def State.takeSegment (s : State) (body : List Byte) : State :=
  if body.length < 4 then s.refuse .segment none .badField
  else if dist8 s.queue.expected (byteAt body 0) = 0 then s.takeCurrent body
  else if dist8 s.queue.expected (byteAt body 0) ≤ 128 then s
  else s.refuse .segment (some (byteAt body 0)) .tagGap

/-- SEGMENT (R12 to R15). -/
def execSegment (dest : Byte) (body : List Byte) (s : State) : Host.Outcome State Fault Refusal :=
  .next (if s.takes dest then s.takeSegment body else s)

/-! ### FLUSH -/

/-- The scope of a FLUSH (R20, 13.6). -/
inductive FlushScope where
  | all
  | group (g : Nat)
  | stack
  deriving DecidableEq, Repr

/-- The scope of a FLUSH body; none where R19 refuses it. The group of another scope is not read
(R197). -/
def flushScopeOf (body : List Byte) : Option FlushScope :=
  if body.length ≠ 2 then none
  else
    match (byteAt body 0).toNat with
    | 1 => some .all
    | 2 => if (byteAt body 1).toNat ≤ 15 then some (.group (byteAt body 1).toNat) else none
    | 3 => some .stack
    | _ => none

/-- A queue entry of a group falls within a scope (R20). -/
def FlushScope.takesEntry : FlushScope → Nat → Bool
  | .all, _ => true
  | .group g, h => decide (g = h)
  | .stack, _ => false

/-- A residual of a group falls within a scope (R20). -/
def FlushScope.takesResidual : FlushScope → Nat → Bool
  | .all, _ => true
  | .group g, h => decide (g = h)
  | .stack, _ => true

/-- A FLUSH with scope ALL or STACK clears OVERFLOW (R21). -/
def FlushScope.clearsOverflow : FlushScope → Bool
  | .all => true
  | .group _ => false
  | .stack => true

/-- Where the armed entry stands, while the station is ARMED (R11). -/
def State.armedAt (s : State) : Option Source :=
  if s.station = .armed then s.candidate.map (fun c => c.1) else none

/-- A list less what a FLUSH removes: its head is kept when it is the armed entry (R21). -/
def keepHead {α : Type} (keep : Bool) (p : α → Bool) : List α → List α
  | [] => []
  | x :: xs => if keep then x :: xs.filter p else (x :: xs).filter p

/-- The queue entries a FLUSH leaves: those out of scope, BOUND, or armed (R20, R21). -/
def State.flushedEntries (s : State) (scope : FlushScope) : List QueueEntry :=
  keepHead (decide (s.armedAt = some .queueHead)) (fun e => e.bound || !scope.takesEntry e.group)
    s.queue.entries

/-- The residuals a FLUSH leaves: those out of scope, or armed (R20, R21). -/
def State.flushedResiduals (s : State) (scope : FlushScope) : List Residual :=
  keepHead (decide (s.armedAt = some .stackTop)) (fun r => !scope.takesResidual r.group)
    s.stack.residuals

/-- An accepted FLUSH (R20 to R22): its removals, OVERFLOW, and dispatch on a queue or stack change. -/
def State.doFlush (s : State) (scope : FlushScope) : State :=
  let t := (s.setQueue { s.queue with entries := s.flushedEntries scope }).setStack
    { s.stack with residuals := s.flushedResiduals scope,
                   overflow := s.stack.overflow && !scope.clearsOverflow }
  if s.flushedEntries scope = s.queue.entries ∧ s.flushedResiduals scope = s.stack.residuals then t
  else t.dispatch

/-- A FLUSH reaches the Segment Queue (R19). -/
def State.takeFlush (s : State) (body : List Byte) : State :=
  match flushScopeOf body with
  | none => s.refuse .flush none .badField
  | some scope => s.doFlush scope

/-- FLUSH (R19 to R22). -/
def execFlush (dest : Byte) (body : List Byte) (s : State) : Host.Outcome State Fault Refusal :=
  .next (if s.takes dest then s.takeFlush body else s)

end Sys2Proof.Machine
end

