-- ==== Sys2Proof/Machine/Agreements.lean ====
section
/-! DEFINITION. The messages of the shared agreements, the Fault Log and the pending query (chapters 6, 10,
11, 12): HALT, RELEASE, STATUS, CLEAR_FAULT, QUERY and STATION_RESET. -/

namespace Sys2Proof.Machine

/-! ### HALT and RELEASE -/

/-- A group byte names a group of the table, 1 to 15 (R117, R121). -/
def groupOk (b : Byte) : Bool := decide (1 ≤ b.toNat) && decide (b.toNat ≤ 15)

/-- A HALT reaches the Group Halt Unit (R117). -/
def State.takeHalt (s : State) (sender : Nat) (body : List Byte) : State :=
  if body.length = 1 ∧ groupOk (byteAt body 0) then
    s.raiseHalt (byteAt body 0).toNat .commanded sender
  else s.refuse .halt none .badField

/-- HALT (R114, R117). -/
def execHalt (sender : Nat) (dest : Byte) (body : List Byte) (s : State) :
    Host.Outcome State Fault Refusal :=
  .next (if s.takes dest then s.takeHalt sender body else s)

/-- A RELEASE reaches the Group Halt Unit (R121). -/
def State.takeRelease (s : State) (sender : Nat) (body : List Byte) : State :=
  if body.length = 2 ∧ groupOk (byteAt body 0) then
    s.releaseGroup (byteAt body 0).toNat (byteAt body 1) sender
  else s.refuse .release none .badField

/-- RELEASE (R121, R122). -/
def execRelease (sender : Nat) (dest : Byte) (body : List Byte) (s : State) :
    Host.Outcome State Fault Refusal :=
  .next (if s.takes dest then s.takeRelease sender body else s)

/-! ### STATUS -/

/-- The link takes STATUS messages into the Peer Table (R164, R171). -/
def State.takesStatus (s : State) : Bool :=
  decide (s.link.state = .listening) || decide (s.link.state = .joined) ||
    decide (s.link.state = .silent)

/-- The Follow Unit converts a STATUS of its leader while TRACKING (R141, R177). A FOLLOW that reaches its
count bound at a step of that conversion ends DONE, and dispatch runs (R28, R36, R146). -/
def State.followStatus (s : State) (sender : Nat) (p : Position) : State :=
  if s.tracking ∧ s.follow.leader = sender then s.enterIdle (s.convertLeader p) else s

/-- A STATUS is written into its sender's entry and its readers are told, in the order of R177: the
Group Halt Unit, the Barrier Unit, the Follow Unit. -/
def State.readStatus (s : State) (sender : Nat) (p : PeerStatus) : State :=
  ((((s.setPeer sender { s.peer sender with status := some p }).adopt p sender).readStatusOf
    sender).followStatus sender p.position)

/-- A STATUS reaches the Peer Table (R171, R177): the own address and a wrong length write nothing. -/
def State.takeStatus (s : State) (sender : Nat) (body : List Byte) : State :=
  match statusOf body with
  | none => s
  | some p => if sender = s.own then s else s.readStatus sender p

/-- STATUS, whatever its destination (R171, R177). -/
def execStatus (sender : Nat) (_dest : Byte) (body : List Byte) (s : State) :
    Host.Outcome State Fault Refusal :=
  .next (if s.takesStatus then s.takeStatus sender body else s)

/-! ### CLEAR_FAULT -/

/-- The persisting cause of a kind is present (R186). -/
def State.causePresent (s : State) (k : FaultKind) : Bool :=
  match k with
  | .driveFault => s.drive.drvFlt
  | .followingError => s.errorBeyond
  | .addressConflict => decide (s.link.state = .silent)
  | .limitPos | .limitNeg | .encoderError | .settleTimeout | .homingFailed | .followOverrun
  | .followLost | .barrierTimeout | .barrierLate | .barrierMismatch | .cycleSlip | .notHomed
  | .range => false

/-- An accepted CLEAR_FAULT ends the episode, and the station enters IDLE (R185). -/
def State.endEpisode (s : State) : State :=
  s.enterIdle ((s.setFaults .reset).setStation .idle)

/-- A CLEAR_FAULT reaches the Fault Log: the checks of R185 in their order. -/
def State.takeClearFault (s : State) (body : List Byte) : State :=
  if body.length ≠ 0 then s.refuse .clearFault none .badField
  else if s.station ≠ .faulted then s.refuse .clearFault none .state
  else if s.faults.kinds.any s.causePresent then s.refuse .clearFault none .causePresent
  else s.endEpisode

/-- CLEAR_FAULT (R185, R186). -/
def execClearFault (dest : Byte) (body : List Byte) (s : State) :
    Host.Outcome State Fault Refusal :=
  .next (if s.takes dest then s.takeClearFault body else s)

/-! ### QUERY -/

/-- The query of a QUERY body; none where R178 refuses it. -/
def queryOf (body : List Byte) (requester : Nat) : Option PendingQuery :=
  if body.length ≠ 1 then none
  else
    let clear := (byteAt body 0).getLsbD 7
    match QueryKind.ofCode ((byteAt body 0).toNat % 128) with
    | none => none
    | some k =>
      if clear && decide (k ≠ .counters) then none
      else some { kind := k, clear := clear, requester := requester }

/-- An accepted QUERY becomes the pending query; one it replaces is counted (R178). -/
def State.setQuery (s : State) (q : PendingQuery) : State :=
  s.setLink { s.link with
    query := some q
    droppedQueries :=
      if s.link.query.isSome then satSucc 255 s.link.droppedQueries else s.link.droppedQueries }

/-- A QUERY reaches the Link Controller (R178). -/
def State.takeQuery (s : State) (sender : Nat) (body : List Byte) : State :=
  match queryOf body sender with
  | none => s.refuse .query none .badField
  | some q => s.setQuery q

/-- QUERY (R178). -/
def execQuery (sender : Nat) (dest : Byte) (body : List Byte) (s : State) :
    Host.Outcome State Fault Refusal :=
  .next (if s.takes dest then s.takeQuery sender body else s)

/-! ### STATION_RESET -/

/-- The seven counters of the COUNTERS report are set to 0; the rest of the last-refusal record and
everything else stays (R189). -/
def State.clearCounters (s : State) : State :=
  let t := s.setQueue { s.queue with refusal := { s.queue.refusal with count := 0 } }
  let u := t.setSeq { t.seq with chainBreaks := 0 }
  let v := u.setStack { u.stack with overflowCount := 0 }
  v.setLink { v.link with crcErrors := 0, slotViolations := 0, cycleSlips := 0, droppedQueries := 0 }

/-- Item 2 of R195: the active record ends ABORTED with the generator ceased, no residual and no
DRV-CLR pulse; an armed barrier record is withdrawn. -/
def State.abortMotion (s : State) : State := (s.endRecord .aborted).dropRecord

/-- Items 3 and 4 of R195: queue, stack, latch, Fault Log, counters, last-refusal record, expected tag
and FRESH. -/
def State.emptyWork (s : State) : State :=
  let t := (s.setQueue .reset).setStack .reset
  let u := t.setSeq { t.seq with paused := false }
  (u.setFaults .reset).clearCounters

/-- A STATION_RESET reaches every block (R53, R195). The halts of item 1 are raised in the table; the
record they would stop is ended by item 2 within the same happening. -/
def State.takeReset (s : State) (sender : Nat) (body : List Byte) : State :=
  if body.length ≠ 0 then s.refuse .stationReset none .badField
  else
    let t := ((s.raiseInvolved .reset sender).abortMotion.emptyWork.setStation .idle).levelTests
    t.dispatch

/-- STATION_RESET (R118, R195). -/
def execStationReset (sender : Nat) (dest : Byte) (body : List Byte) (s : State) :
    Host.Outcome State Fault Refusal :=
  .next (if s.takes dest then s.takeReset sender body else s)

end Sys2Proof.Machine
end

