-- ==== Sys2Proof/Machine/Marks.lean ====
section
/-! DEFINITION. Marks (10 sections 10.2 and 10.3) and the happenings that marks bring about: MARK_HEARD,
MARK_TIMER_EXPIRY, SILENCE_TIMER_EXPIRY, PEER_LOST, DWELL_END, BARRIER_START, BARRIER_TIMEOUT,
SETTLE_TIMEOUT and FOLLOW_LOST.

A mark signals every block within its own happening (R167), so the mark commands bring about what is
due at their mark. The commands of the rows from PEER_LOST to FOLLOW_LOST bring about that one
happening alone, where its condition stands in the state (log 4). -/

namespace Sys2Proof.Machine

/-- The station becomes JOINED with a cycle number (R169): its mark timer starts, the silence timer is
over, and the join is reported. `slotPasses` says whether the own slot of the joining cycle passes
unused. The record of the last mark heard, which serves joining alone, is emptied (log 38). -/
def State.becomeJoined (s : State) (cycle : Cycle) (slotPasses : Bool) : State :=
  (s.setLink { s.link with
    state := .joined, cycle := cycle, lastMark := none, slotPasses := slotPasses,
    markTimer := some s.markTimerLength, silenceTimer := none, slotTiming := true }).join

/-- A mark heard while LISTENING (R169): every heard mark is cleared and no entry judged; the second of
a pair joins, any other is recorded and restarts the silence timer. -/
def State.markListening (s : State) (m : Cycle) : State :=
  let t := s.clearHeard
  if t.link.lastMark = some (m - 1) then t.becomeJoined m true
  else t.setLink { t.link with
    cycle := m, lastMark := some m, slotTiming := true, silenceTimer := some t.silenceTimerLength }

/-- A mark heard while JOINED or SILENT (R167, R168): a new cycle, a repeat, or a slip. -/
def State.markRunning (s : State) (m : Cycle) : State :=
  if m = s.link.cycle + 1 then s.newCycle m false
  else if m = s.link.cycle then s.restartTiming
  else s.newCycle m true

/-- A mark is heard (R165, R167): one whose check byte is wrong is not, and an OFFLINE station hears
none (R164). -/
def State.hearMark (s : State) (m : Cycle) (check : Byte) : State :=
  if check ≠ markCheck m then s
  else
    match s.link.state with
    | .offline => s
    | .listening => s.markListening m
    | .joined => s.markRunning m
    | .silent => s.markRunning m

/-- MARK_HEARD (R165, R167 to R169): the command says that the transmission is a mark (log 8). -/
def execMarkHeard (m : Cycle) (check : Byte) (s : State) : Host.Outcome State Fault Refusal :=
  .next (s.hearMark m check)

/-- MARK_TIMER_EXPIRY (R166): a JOINED station sends the mark of the next cycle and takes it as heard. -/
def execMarkTimerExpiry (s : State) : Host.Outcome State Fault Refusal :=
  .next (if s.link.state = .joined then
      (s.setLink { s.link with markSent := some (markBytes (s.link.cycle + 1)) }).newCycle (s.link.cycle + 1) false
    else s)

/-- SILENCE_TIMER_EXPIRY (R169): a LISTENING station joins, sends mark 0 and takes cycle 0. -/
def execSilenceTimerExpiry (s : State) : Host.Outcome State Fault Refusal :=
  .next (if s.link.state = .listening then
      ((s.setLink { s.link with markSent := some (markBytes 0) }).clearHeard).becomeJoined 0 false
    else s)

/-- PEER_LOST (R176). -/
def execPeerLost (a : Nat) (s : State) : Host.Outcome State Fault Refusal := .next (s.losePeer a)

/-- DWELL_END (R38). -/
def execDwellEnd (s : State) : Host.Outcome State Fault Refusal := .next s.checkDwell

/-- BARRIER_START (R99). -/
def execBarrierStart (s : State) : Host.Outcome State Fault Refusal := .next s.checkStart

/-- BARRIER_TIMEOUT (R100). -/
def execBarrierTimeout (s : State) : Host.Outcome State Fault Refusal := .next s.checkWait

/-- SETTLE_TIMEOUT (R160). -/
def execSettleTimeout (s : State) : Host.Outcome State Fault Refusal := .next s.checkSettle

/-- FOLLOW_LOST (R147). -/
def execFollowLost (s : State) : Host.Outcome State Fault Refusal := .next s.checkLeader

end Sys2Proof.Machine
end

