-- ==== Sys2Proof/Machine/Orders.lean ====
section
/-! DEFINITION. The messages of the Motion Sequencer (chapter 2): STOP, CONTINUE and SET_POSITION. -/

namespace Sys2Proof.Machine

/-! ### STOP -/

/-- The modes of a STOP (R45, 13.6). -/
inductive StopMode where
  | abortDecel | abortImmediate | pause
  deriving DecidableEq, Repr

/-- The mode of a STOP body; none where R45 refuses it BAD_FIELD. -/
def stopModeOf (body : List Byte) : Option StopMode :=
  if body.length ≠ 1 then none
  else
    match (byteAt body 0).toNat with
    | 1 => some .abortDecel
    | 2 => some .abortImmediate
    | 3 => some .pause
    | _ => none

/-- The pause latch is set (R50). -/
def State.setLatch (s : State) : State := s.setSeq { s.seq with paused := true }

/-- The disposition of a STOP in PAUSE mode: ABORT for a HOME or a FOLLOW (R46). -/
def State.pauseDisposition (s : State) : Disposition :=
  match s.activeKind with
  | none => .abort
  | some k => if k.suspendable then .pause else .abort

/-- A STOP taken while RUNNING (R45, R46). -/
def State.stopRunning (s : State) : StopMode → State
  | .abortDecel => s.enterIdle (s.beginStop .abort false false)
  | .abortImmediate => s.enterIdle (s.beginStop .abort true false)
  | .pause => s.enterIdle (s.setLatch.beginStop s.pauseDisposition false false)

/-- A STOP taken while STOPPING (R45, R47). -/
def State.stopStopping (s : State) : StopMode → State
  | .abortDecel => s
  | .abortImmediate => s.enterIdle s.reachStandstill
  | .pause => s.setLatch

/-- A STOP taken in IDLE, HELD or SETTLING (R37, R45): PAUSE sets the latch, and a change of it gives
dispatch its occasion in IDLE and HELD (R28). -/
def State.stopQuiet (s : State) : StopMode → State
  | .abortDecel => s.refuse .stop none .state
  | .abortImmediate => s.refuse .stop none .state
  | .pause => if s.seq.paused then s else s.setLatch.dispatch

/-- A STOP with a mode acts by the station state (R45). -/
def State.doStop (s : State) (m : StopMode) : State :=
  match s.station with
  | .running => s.stopRunning m
  | .stopping => s.stopStopping m
  | .settling => s.stopQuiet m
  | .idle => s.stopQuiet m
  | .held => s.stopQuiet m
  | .armed => s.refuse .stop none .armed
  | .faulted => s.refuse .stop none .state
  | .offline => s

/-- A STOP reaches the Motion Sequencer (R45). -/
def State.takeStop (s : State) (body : List Byte) : State :=
  match stopModeOf body with
  | none => s.refuse .stop none .badField
  | some m => s.doStop m

/-- STOP (R45 to R48). -/
def execStop (dest : Byte) (body : List Byte) (s : State) : Host.Outcome State Fault Refusal :=
  .next (if s.takes dest then s.takeStop body else s)

/-! ### CONTINUE -/

/-- A CONTINUE reaches the Motion Sequencer (R50): a latch that was set is cleared, and the change gives
dispatch its occasion. -/
def State.takeContinue (s : State) (body : List Byte) : State :=
  if body.length ≠ 0 then s.refuse .resume none .badField
  else if s.seq.paused then (s.setSeq { s.seq with paused := false }).dispatch
  else s

/-- CONTINUE (R50). -/
def execContinue (dest : Byte) (body : List Byte) (s : State) : Host.Outcome State Fault Refusal :=
  .next (if s.takes dest then s.takeContinue body else s)

/-! ### SET_POSITION -/

/-- An accepted SET_POSITION (R51): both positions and the edge remainder are written, and HOMED is set
by its option. The following error is 0 after it, so R158 raises nothing. -/
def State.doSetPosition (s : State) (p : Position) (homed : Bool) : State :=
  let t := s.writePositions p
  t.setSeq { t.seq with homed := t.seq.homed || homed }

/-- A SET_POSITION reaches the Motion Sequencer (R51). -/
def State.takeSetPosition (s : State) (body : List Byte) : State :=
  if body.length ≠ 5 then s.refuse .setPosition none .badField
  else
    match s.station with
    | .running => s.refuse .setPosition none .state
    | .stopping => s.refuse .setPosition none .state
    | .settling => s.refuse .setPosition none .state
    | .idle => s.doSetPosition (position32 body 0) ((byteAt body 4).getLsbD 0)
    | .held => s.doSetPosition (position32 body 0) ((byteAt body 4).getLsbD 0)
    | .armed => s.doSetPosition (position32 body 0) ((byteAt body 4).getLsbD 0)
    | .faulted => s.doSetPosition (position32 body 0) ((byteAt body 4).getLsbD 0)
    | .offline => s

/-- SET_POSITION (R51). -/
def execSetPosition (dest : Byte) (body : List Byte) (s : State) :
    Host.Outcome State Fault Refusal :=
  .next (if s.takes dest then s.takeSetPosition body else s)

end Sys2Proof.Machine
end

