-- ==== Sys2Proof/Machine/Reports.lean ====
section
/-! DEFINITION. What the station sends in its own slot: the STATUS body (13.4, R173, R199) and the bodies
of the six reports (13.5, R187 to R189), each assembled from the state as it stands. -/

namespace Sys2Proof.Machine

/-! ### STATUS (13.4) -/

/-- A code, or 0 for none. -/
def codeOr0 {α : Type} (code : α → Byte) : Option α → Byte
  | none => 0
  | some x => code x

/-- A 32-bit field, least significant byte first (R196). -/
def bytes4 (w : BitVec 32) : List Byte := leBytes 4 w.toNat

/-- A 16-bit field, least significant byte first (R196). -/
def bytes2 (w : BitVec 16) : List Byte := leBytes 2 w.toNat

/-- A mask of 16 bits from the marks of a list, its first at bit 0. -/
def maskBits : List Bool → Nat
  | [] => 0
  | b :: bs => b.toNat + 2 * maskBits bs

/-- The queue free count (R9). -/
def State.freeCount (s : State) : Nat := 16 - s.queue.entries.length

/-- The last-refusal tag as sent: 0 unless a SEGMENT was refused with a tag recorded (R199). -/
def LastRefusal.tagSent (r : LastRefusal) : Byte :=
  if r.kind = some .segment then r.tag.getD 0 else 0

/-- The advertisement bytes 22 to 31, all 0 while no barrier record exists (R91, R199). -/
def State.advBytes (s : State) : List Byte :=
  match s.barrier with
  | none => List.replicate 10 0
  | some b =>
    [(if b.phase = .started then 3 else 1), BitVec.ofNat 8 b.group, b.number, b.epoch] ++
      bytes2 b.since ++ bytes4 b.mask

/-- The HALTED mask of the group vector: bit g − 1 for group g (R112). -/
def State.haltedMask (s : State) : List Byte :=
  leBytes 2 (maskBits (s.groups.map (fun g => decide (g.condition = .halted))))

/-- The body of the STATUS that the own slot sends (R173, 13.4). -/
def State.statusBody (s : State) : List Byte :=
  [s.station.code, s.statusFlags, BitVec.ofNat 8 s.freeCount, s.queue.expected,
   (s.seq.lastFinished.map (fun p => p.1)).getD 0,
   codeOr0 Result.code (s.seq.lastFinished.map (fun p => p.2)),
   s.activeTag.getD 0, codeOr0 SegKind.code s.activeKind,
   BitVec.ofNat 8 s.stack.residuals.length] ++
  bytes4 s.gen.position ++ bytes4 s.encoder.position ++
  [codeOr0 (fun k => BitVec.ofNat 8 k.code) s.faults.current,
   codeOr0 MsgKind.code s.queue.refusal.kind, s.queue.refusal.tagSent,
   codeOr0 Reason.code s.queue.refusal.reason, s.queue.refusal.count] ++
  s.advBytes ++ s.groups.map (fun g => g.epoch) ++ s.haltedMask

/-! ### REPORT (13.5) -/

/-- The free byte at a position of the report now assembled (log 16). -/
def State.openByte (s : State) (position : Nat) : Byte := Config.openReportByte s.openCount position

/-- One listing of a QUEUE report; `armed` says whether the entry is the armed entry (R187). -/
def QueueEntry.listing (e : QueueEntry) (armed : Bool) : List Byte :=
  [e.tag, e.body.kind.code, BitVec.ofNat 8 e.group,
   BitVec.ofNat 8 (e.insert.toNat + 2 * e.chain.toNat + 4 * e.bound.toNat + 8 * armed.toNat)]

/-- QUEUE (R187). -/
def State.queueReport (s : State) : List Byte :=
  [s.queue.expected, BitVec.ofNat 8 s.queue.entries.length] ++
  (s.queue.entries.mapIdx (fun i e =>
    e.listing (decide (i = 0) && decide (s.armedAt = some .queueHead)))).flatten

/-- The remaining part as listed (R187). -/
def Remaining.listing : Remaining → List Byte
  | .move n => bytes4 (BitVec.ofInt 32 n)
  | .goto p => bytes4 p
  | .dwell n => leBytes 4 n

/-- One listing of a STACK report (R187). -/
def Residual.listing (r : Residual) (armed : Bool) : List Byte :=
  [r.tag, r.remaining.kind.code, BitVec.ofNat 8 r.group,
   r.origin.code + BitVec.ofNat 8 (4 * r.barrier.isSome.toNat + 8 * armed.toNat),
   (r.barrier.map (fun b => b.number)).getD 0] ++ r.remaining.listing

/-- STACK (R187). -/
def State.stackReport (s : State) : List Byte :=
  [BitVec.ofNat 8 s.stack.residuals.length, BitVec.ofNat 8 s.stack.overflow.toNat] ++
  (s.stack.residuals.mapIdx (fun i r =>
    r.listing (decide (i = 0) && decide (s.armedAt = some .stackTop)))).flatten

/-- One entry of a GROUPS report, `free` standing in the originator bits of an entry without an
originator (R188, log 16). -/
def GroupEntry.listing (g : GroupEntry) (free : Byte) : List Byte :=
  [g.epoch, g.cause.code + BitVec.ofNat 8 (8 * (g.originator.getD free.toNat % 32))] ++
    bytes2 g.changedAt

/-- GROUPS (R188); entry i begins at body position 7 + 4 i. -/
def State.groupsReport (s : State) : List Byte :=
  s.haltedMask ++ leBytes 2 (maskBits (s.groups.map (fun g => g.synchronised))) ++
  (s.groups.mapIdx (fun i g => g.listing (s.openByte (8 + 4 * i)))).flatten

/-- PEERS (R188). -/
def State.peersReport (s : State) : List Byte :=
  s.peers.map (fun e => e.presence.code + BitVec.ofNat 8 (4 * (e.miss % 16)))

/-- One entry of a FAULTS report that begins at a body position (R188, log 16): an empty entry has kind 0
and no tag, and its tag, cycle and position are open. -/
def State.faultListing (s : State) (position : Nat) : Option FaultEntry → List Byte
  | none => [0, 0] ++ (List.range 7).map (fun i => s.openByte (position + 2 + i))
  | some e =>
    [BitVec.ofNat 8 e.kind.code, BitVec.ofNat 8 e.tag.isSome.toNat,
     e.tag.getD (s.openByte (position + 2))] ++ bytes2 e.cycle ++ bytes4 e.position

/-- The recorded-kinds mask: bit k − 1 for kind code k (13.5). -/
def FaultLog.kindsMask (f : FaultLog) : Nat :=
  maskBits ((List.range 16).map (fun i => f.kinds.any (fun k => decide (k.code = i + 1))))

/-- FAULTS (R188). -/
def State.faultsReport (s : State) : List Byte :=
  [codeOr0 (fun k => BitVec.ofNat 8 k.code) s.faults.current, BitVec.ofNat 8 s.faults.count] ++
  leBytes 2 s.faults.kindsMask ++ s.faultListing 7 s.faults.first ++ s.faultListing 16 s.faults.last

/-- COUNTERS (R189). -/
def State.countersReport (s : State) : List Byte :=
  [s.queue.refusal.count, BitVec.ofNat 8 s.seq.chainBreaks, BitVec.ofNat 8 s.stack.overflowCount] ++
  leBytes 2 s.link.crcErrors ++
  [BitVec.ofNat 8 s.link.slotViolations, BitVec.ofNat 8 s.link.cycleSlips,
   BitVec.ofNat 8 s.link.droppedQueries]

/-- The contents of a report from offset 3 (13.5). -/
def State.reportContents (s : State) : QueryKind → List Byte
  | .queue => s.queueReport
  | .stack => s.stackReport
  | .groups => s.groupsReport
  | .peers => s.peersReport
  | .faults => s.faultsReport
  | .counters => s.countersReport

/-- The body of a REPORT: its kind, the cycle number at assembly and its contents (13.5). -/
def State.reportBody (s : State) (k : QueryKind) : List Byte :=
  k.code :: bytes2 s.link.cycle ++ s.reportContents k

/-! ### The frame of the own slot (R173, R179) -/

/-- A message as it stands in a payload (13.1). -/
def messageBytes (kind dest : Byte) (body : List Byte) : List Byte :=
  kind :: dest :: BitVec.ofNat 8 body.length :: body

/-- The REPORT message of the pending query, addressed to its requester; nothing without one (R179). -/
def State.reportMessage (s : State) : List Byte :=
  match s.link.query with
  | none => []
  | some q => messageBytes reportCode (BitVec.ofNat 8 q.requester) (s.reportBody q.kind)

/-- The payload of the own frame: STATUS to ALL, then the REPORT (R173). -/
def State.slotPayload (s : State) : List Byte :=
  messageBytes statusCode destAll s.statusBody ++ s.reportMessage

/-- The frame of the own slot (R173). -/
def State.slotFrame (s : State) : List Byte := frameOf s.own s.slotPayload

end Sys2Proof.Machine
end

