-- ==== Sys2Proof/Machine/Frames.lean ====
section
/-! DEFINITION. Frames (10 sections 10.1, 10.4 and 10.5): FRAME_RECEIVED, SLOT_START and LISTEN_BACK. -/

namespace Sys2Proof.Machine

/-! ### Listening back (R174) -/

/-- The third failure in a row: the link becomes SILENT, the pending query is dropped, and
ADDRESS_CONFLICT is reported. A SILENT station's mark timer does not run (R164, R166). -/
def State.fallSilent (s : State) : State :=
  (s.setLink { s.link with state := .silent, query := none, markTimer := none }).faultOfActive
    .addressConflict

/-- The listen-back count after a comparison: 0 for a frame heard as sent, one more otherwise. -/
def State.countListen (s : State) (asSent : Bool) : State :=
  s.setLink { s.link with
    sending := none, listenFailures := if asSent then 0 else satSucc 3 s.link.listenFailures }

/-- The own frame is heard as given, or not heard as a frame at all (R174). A station that sends no
frame compares none. -/
def State.listen (s : State) (heard : Option (List Byte)) : State :=
  match s.link.state, s.link.sending with
  | .joined, some sent =>
    let t := s.countListen (decide (heard = some sent))
    if t.link.listenFailures = 3 then s.enterIdle t.fallSilent else t
  | .joined, none => s
  | .offline, _ => s
  | .listening, _ => s
  | .silent, _ => s

/-- LISTEN_BACK (R174). -/
def execListenBack (heard : Option (List Byte)) (s : State) : Host.Outcome State Fault Refusal :=
  .next (s.listen heard)

/-! ### The own slot (R173, R179, R189) -/

/-- What follows the assembly: the frame is being sent, the pending query is empty, and the own Peer
Table entry is written from the STATUS as sent. -/
def State.sendSlot (s : State) : State :=
  let t := s.setLink { s.link with sending := some s.slotFrame, query := none }
  t.setPeer s.own { t.peer s.own with
    presence := .present, miss := 0, status := statusOf s.statusBody }

/-- After a report has been assembled: the count behind its open bytes moves on, and the CLEAR option
sets the seven counters to 0 (R179, R189). -/
def State.afterReport (s : State) (q : PendingQuery) : State :=
  let t := s.setOpenCount (s.openCount + 1)
  if q.clear then t.clearCounters else t

/-- The own slot begins at a JOINED station (R173). -/
def State.slotBegins (s : State) : State :=
  match s.link.query with
  | none => s.sendSlot
  | some q => s.sendSlot.afterReport q

/-- SLOT_START (R173): a JOINED station sends, but for the own slot of the cycle in which it joined by a
pair of marks (R169). -/
def execSlotStart (s : State) : Host.Outcome State Fault Refusal :=
  .next (if s.link.state = .joined ∧ s.link.slotPasses = false then s.slotBegins else s)

/-! ### Receiving (R163, R170, R171) -/

/-- A message other than STATUS goes to its owner (R172). -/
def State.handTo (s : State) (k : MsgKind) (sender : Nat) (body : List Byte) : State :=
  match k with
  | .segment => s.takeSegment body
  | .flush => s.takeFlush body
  | .stop => s.takeStop body
  | .resume => s.takeContinue body
  | .setPosition => s.takeSetPosition body
  | .halt => s.takeHalt sender body
  | .release => s.takeRelease sender body
  | .clearFault => s.takeClearFault body
  | .query => s.takeQuery sender body
  | .stationReset => s.takeReset sender body

/-- One message of a valid frame, by the first row of R171 that applies. -/
def State.handMessage (s : State) (sender : Nat) (m : Message) : State :=
  if m.kind = statusCode then (if s.takesStatus then s.takeStatus sender m.body else s)
  else
    match MsgKind.ofCode m.kind.toNat with
    | none => s
    | some k => if s.takes m.dest then s.handTo k sender m.body else s

/-- The messages of a valid frame, one by one, each seeing the state the one before it left (R171). -/
def State.handMessages (s : State) (sender : Nat) (ms : List Message) : State :=
  ms.foldl (fun t m => t.handMessage sender m) s

/-- A frame is dropped for its CRC or payload length (R170, R180). -/
def State.dropForCrc (s : State) : State :=
  s.setLink { s.link with crcErrors := satSucc 65535 s.link.crcErrors }

/-- A frame is dropped for its slot or for carrying the own address (R170, R180). -/
def State.dropForSlot (s : State) : State :=
  s.setLink { s.link with slotViolations := satSucc 255 s.link.slotViolations }

/-- The slot a transmission lies in; none before the first mark (R163). -/
def State.slotOf (s : State) (sinceMark : Nat) : Option Nat :=
  if s.link.slotTiming then s.cfg.slotAt sinceMark else none

/-- A valid frame: presence to its sender, then its messages (R170, R176). -/
def State.validFrame (s : State) (sender : Nat) (bytes : List Byte) : State :=
  (s.setPeer sender (s.peer sender).heardFrame).handMessages sender (frameMessages bytes)

/-- A frame of another transmission is checked (R170). -/
def State.checkFrame (s : State) (sinceMark : Nat) (bytes : List Byte) : State :=
  let sender := (byteAt bytes 0).toNat
  if !frameSound bytes then s.dropForCrc
  else if sender = s.own then s.dropForSlot
  else if s.slotOf sinceMark ≠ some sender then s.dropForSlot
  else s.validFrame sender bytes

/-- A transmission that begins in the mark window is taken as a mark (R163). -/
def State.inMarkWindow (s : State) (sinceMark : Nat) : Bool :=
  s.link.slotTiming && decide (sinceMark < 8000)

/-- The bytes of a transmission in the mark window, read as a mark: three bytes (13.1); any other length
carries no mark with a right check byte (log 8). -/
def State.windowMark (s : State) (bytes : List Byte) : State :=
  if bytes.length = 3 then s.hearMark (BitVec.ofNat 16 (fieldNat bytes 0 2)) (byteAt bytes 2) else s

/-- A transmission is heard (R163, R164, R170): the own frame for the listen-back alone, a transmission
of the mark window as a mark, any other as a frame (log 8). -/
def State.hearTransmission (s : State) (own : Bool) (sinceMark : Nat) (bytes : List Byte) : State :=
  if s.link.state = .offline then s
  else if own then s.listen (some bytes)
  else if s.inMarkWindow sinceMark then s.windowMark bytes
  else s.checkFrame sinceMark bytes

/-- FRAME_RECEIVED (R163, R170, R171). -/
def execFrameReceived (own : Bool) (sinceMark : Nat) (bytes : List Byte) (s : State) :
    Host.Outcome State Fault Refusal :=
  .next (s.hearTransmission own sinceMark bytes)

end Sys2Proof.Machine
end

