-- ==== Sys2Proof/Machine/Inputs.lean ====
section
/-! DEFINITION. The motor-side inputs and the drive timers (chapters 7 and 9): LIMIT_INPUT_CHANGE,
HOME_INPUT_CHANGE, INDEX_EDGE, DRV_FLT_CHANGE, ENCODER_CHANGE, DRV_CLR_PULSE_END and HOLDOFF_END.

Until the configuration has loaded no input is judged, and a conditioned state that is given again has
not changed: such a command changes nothing (R150, log 17). -/

namespace Sys2Proof.Machine

/-! ### Limits (R133, R151) -/

/-- The state with the conditioned state of the limit on a side. -/
def State.setLimit (s : State) (side : Side) (active : Bool) : State :=
  match side with
  | .pos => s.setDrive { s.drive with limPos := active }
  | .neg => s.setDrive { s.drive with limNeg := active }

/-- A limit that becomes ACTIVE outside a HOME record (R151). -/
def State.judgeLimit (s : State) (side : Side) : State :=
  if s.steppingToward side then s.faultOfActive (limitFault side) else s

/-- A limit becomes ACTIVE: the Homing Controller judges it while the active record is a HOME (R150). -/
def State.limitReached (s : State) (side : Side) : State :=
  if s.activeKind = some .home then s.judgeHomingLimit side else s.judgeLimit side

/-- A limit takes a conditioned state; becoming INACTIVE raises nothing (R133, R151). -/
def State.limitChange (s : State) (side : Side) (active : Bool) : State :=
  let t := s.setLimit side active
  if active then s.enterIdle (t.limitReached side) else t

/-- LIMIT_INPUT_CHANGE (R133, R150, R151). -/
def execLimitInputChange (side : Side) (active : Bool) (s : State) :
    Host.Outcome State Fault Refusal :=
  .next (if s.loaded ∧ s.limitActive side ≠ active then s.limitChange side active else s)

/-! ### HOME and the index (R130 to R132) -/

/-- HOME takes a conditioned state, reported to the Homing Controller, which acts while it runs its
phases (R130, R137). -/
def State.homeChange (s : State) (active : Bool) : State :=
  let t := s.setDrive { s.drive with home := active }
  if t.homingRuns then s.enterIdle (if active then t.homeActive else t.homeInactive) else t

/-- HOME_INPUT_CHANGE (R130 to R132). -/
def execHomeInputChange (active : Bool) (s : State) : Host.Outcome State Fault Refusal :=
  .next (if s.loaded ∧ s.drive.home ≠ active then s.homeChange active else s)

/-- ENC-Z becomes ACTIVE: an index edge for the Homing Controller (R132, R150). -/
def State.indexRises (s : State) : State :=
  let t := s.setDrive { s.drive with encZ := true }
  if t.homingRuns then s.enterIdle t.countIndex else t

/-- INDEX_EDGE (R132, R150). ENC-Z becomes ACTIVE, from INACTIVE: had it been ACTIVE, it has returned
before (log 11). -/
def execIndexEdge (s : State) : Host.Outcome State Fault Refusal :=
  .next (if s.loaded then s.indexRises else s)

/-- What can happen while no command waits: an ACTIVE ENC-Z becomes INACTIVE or stays, a change that R150
reports to no block and for which the table has no row (log 11). Nothing else changes. -/
def State.idles (s : State) : State :=
  if s.drive.encZ then
    (s.setDrive { s.drive with encZ := Config.indexLevel s.indexCount }).setIndexCount
      (s.indexCount + 1)
  else s

/-! ### The drive fault (R152) -/

/-- DRV-FLT takes a conditioned state; becoming ACTIVE raises DRIVE_FAULT from IDLE onward. -/
def State.drvFltChange (s : State) (active : Bool) : State :=
  let t := s.setDrive { s.drive with drvFlt := active }
  if active then t.faultOfActive .driveFault else t

/-- DRV_FLT_CHANGE (R152). -/
def execDrvFltChange (active : Bool) (s : State) : Host.Outcome State Fault Refusal :=
  .next (if s.loaded ∧ s.drive.drvFlt ≠ active then s.drvFltChange active else s)

/-! ### The encoder (R155 to R159) -/

/-- ENCODER_CHANGE (R155 to R159). Where the first edge of a double change in UP/DOWN mode settles a
record, dispatch runs at the end of the happening, after both edges (DESIGN CHOICE, log 41). -/
def execEncoderChange (a b : Bool) (s : State) : Host.Outcome State Fault Refusal :=
  .next (if s.loaded ∧ (s.drive.encA, s.drive.encB) ≠ (a, b) then s.enterIdle (s.pairChange a b)
    else s)

/-! ### DRV-CLR and the holdoff (R153, R154) -/

/-- The start holdoff ends: the clear state is NONE, and the sequencer dispatches (R154). -/
def State.holdoffEnds (s : State) : State :=
  (s.setDrive { s.drive with clear := .none, pulseTimer := none, holdoffTimer := none }).dispatch

/-- The pulse ends and the holdoff begins; a holdoff of 0 ends within the happening (R153, R154). -/
def State.pulseEnds (s : State) : State :=
  let t := s.setDrive { s.drive with
    clear := .hold, pulseTimer := none, holdoffTimer := some s.cfg.holdoff }
  if s.cfg.holdoff = 0 then t.holdoffEnds else t

/-- DRV_CLR_PULSE_END (R153). -/
def execDrvClrPulseEnd (s : State) : Host.Outcome State Fault Refusal :=
  .next (if s.drive.clear = .pulse then s.pulseEnds else s)

/-- HOLDOFF_END (R154). -/
def execHoldoffEnd (s : State) : Host.Outcome State Fault Refusal :=
  .next (if s.drive.clear = .hold then s.holdoffEnds else s)

end Sys2Proof.Machine
end

