-- ==== Sys2Proof/Machine/Motion.lean ====
section
/-! DEFINITION. STEP_DUE (chapter 3). -/

namespace Sys2Proof.Machine

/-- A step interval is running: the generator is in a run, which it is in RUNNING and STOPPING only. -/
def State.stepPends (s : State) : Bool :=
  s.gen.run.isSome && (decide (s.station = .running) || decide (s.station = .stopping))

/-- STEP_DUE (R57 to R67): the next step of the run falls due; without a run none can. -/
def execStepDue (s : State) : Host.Outcome State Fault Refusal :=
  .next (if s.stepPends then s.enterIdle s.stepRun else s)

end Sys2Proof.Machine
end

