-- ==== Sys2Proof/Machine/StartUp.lean ====
section
/-! DEFINITION. Start-up (chapter 12): POWER_ON, PIN_RESET, RESET_PIN_RELEASE, CONFIG_LOAD_DONE and
CONFIG_READ_TIMEOUT. -/

namespace Sys2Proof.Machine

/-- Every block in its power-on values (R190), with the RESET line as given. The commands that wait are
the outside's and stay, and so do the model's counters behind its free values. -/
def State.powerOnValues (s : State) (pinDriven : Bool) : State :=
  { State.reset with
    loader := { Loader.reset with resetPin := pinDriven }
    openCount := s.openCount, restCount := s.restCount, indexCount := s.indexCount,
    pending := s.pending }

/-- A load is under way: it has begun, the pin being released, and has not ended (R190). -/
def State.loadRuns (s : State) : Bool :=
  decide (s.loader.load = .loading) && !s.loader.resetPin

/-- The conditioned state of the input at bit `k` of the polarity byte (R150, 13.7): ACTIVE when the
line is at the level its polarity names. -/
def conditioned (polarities levels : BitVec 7) (k : Nat) : Bool :=
  polarities.getLsbD k == levels.getLsbD k

/-- The first conditioned states, taken at a successful load without reporting a change (R150). -/
def Drive.taken (d : Drive) (polarities levels : BitVec 7) : Drive :=
  { d with limPos := conditioned polarities levels 0, limNeg := conditioned polarities levels 1,
           home := conditioned polarities levels 2, drvFlt := conditioned polarities levels 3,
           encA := conditioned polarities levels 4, encB := conditioned polarities levels 5,
           encZ := conditioned polarities levels 6 }

/-- The load fails: FAILED, no field put into use, FAULT asserted by R194 (R191). -/
def State.failLoad (s : State) : State := s.setLoader { s.loader with load := .failed }

/-- The load succeeds and the record is put into use, in the order of R191: inputs, encoder pair, DIR,
link LISTENING with its silence timer (R59, R150, R162, R169). -/
def State.useRecord (s : State) (c : Settings) (address : Nat) (levels : BitVec 7) : State :=
  let t := s.setLoader { s.loader with load := .loaded, settings := c, address := address }
  let u := t.setDrive (t.drive.taken c.polarities levels)
  let v := u.setEncoder { u.encoder with pair := some (u.drive.encA, u.drive.encB) }
  let w := v.setGen { v.gen with dirHigh := dirLevel c .pos }
  w.setLink { w.link with state := .listening, silenceTimer := some w.silenceTimerLength }

/-- The record read is judged (R191): the checks of `settingsOf`, and the address below the span. -/
def State.judgeRecord (s : State) (bytes : List Byte) (straps : BitVec 5) (levels : BitVec 7) : State :=
  match settingsOf bytes with
  | none => s.failLoad
  | some c =>
    if addressOf c straps < c.span then s.useRecord c (addressOf c straps) levels else s.failLoad

/-- POWER_ON (R190). -/
def execPowerOn (s : State) : Host.Outcome State Fault Refusal :=
  .next (s.powerOnValues s.loader.resetPin)

/-- PIN_RESET (R190): everything in progress is abandoned and every block held in its power-on values. -/
def execPinReset (s : State) : Host.Outcome State Fault Refusal :=
  .next (s.powerOnValues true)

/-- RESET_PIN_RELEASE (R190): the load begins. A pin that is not driven is not released. -/
def execResetPinRelease (s : State) : Host.Outcome State Fault Refusal :=
  .next (if s.loader.resetPin then s.setLoader { s.loader with resetPin := false } else s)

/-- CONFIG_LOAD_DONE (R191 to R193). -/
def execConfigLoadDone (bytes : List Byte) (straps : BitVec 5) (levels : BitVec 7) (s : State) :
    Host.Outcome State Fault Refusal :=
  .next (if s.loadRuns then s.judgeRecord bytes straps levels else s)

/-- CONFIG_READ_TIMEOUT (R191). -/
def execConfigReadTimeout (s : State) : Host.Outcome State Fault Refusal :=
  .next (if s.loadRuns then s.failLoad else s)

end Sys2Proof.Machine
end

