-- ==== Sys2Proof/Machine/Dispatch.lean ====
section
/-! DEFINITION. The dispatch of a command to its meaning. -/

namespace Sys2Proof.Machine

def exec (i : Instr) (s : State) : Host.Outcome State Fault Refusal :=
  match i with
  | .powerOn => Sys2Proof.Machine.execPowerOn s
  | .pinReset => Sys2Proof.Machine.execPinReset s
  | .resetPinRelease => Sys2Proof.Machine.execResetPinRelease s
  | .configLoadDone bytes straps levels => Sys2Proof.Machine.execConfigLoadDone bytes straps levels s
  | .configReadTimeout => Sys2Proof.Machine.execConfigReadTimeout s
  | .markHeard number check => Sys2Proof.Machine.execMarkHeard number check s
  | .markTimerExpiry => Sys2Proof.Machine.execMarkTimerExpiry s
  | .silenceTimerExpiry => Sys2Proof.Machine.execSilenceTimerExpiry s
  | .peerLost address => Sys2Proof.Machine.execPeerLost address s
  | .dwellEnd => Sys2Proof.Machine.execDwellEnd s
  | .barrierStart => Sys2Proof.Machine.execBarrierStart s
  | .barrierTimeout => Sys2Proof.Machine.execBarrierTimeout s
  | .settleTimeout => Sys2Proof.Machine.execSettleTimeout s
  | .followLost => Sys2Proof.Machine.execFollowLost s
  | .frameReceived own sinceMark bytes => Sys2Proof.Machine.execFrameReceived own sinceMark bytes s
  | .status sender dest body => Sys2Proof.Machine.execStatus sender dest body s
  | .segment _ dest body => Sys2Proof.Machine.execSegment dest body s
  | .flush _ dest body => Sys2Proof.Machine.execFlush dest body s
  | .stop _ dest body => Sys2Proof.Machine.execStop dest body s
  | .resume _ dest body => Sys2Proof.Machine.execContinue dest body s
  | .setPosition _ dest body => Sys2Proof.Machine.execSetPosition dest body s
  | .halt sender dest body => Sys2Proof.Machine.execHalt sender dest body s
  | .release sender dest body => Sys2Proof.Machine.execRelease sender dest body s
  | .clearFault _ dest body => Sys2Proof.Machine.execClearFault dest body s
  | .query sender dest body => Sys2Proof.Machine.execQuery sender dest body s
  | .stationReset sender dest body => Sys2Proof.Machine.execStationReset sender dest body s
  | .slotStart => Sys2Proof.Machine.execSlotStart s
  | .listenBack heard => Sys2Proof.Machine.execListenBack heard s
  | .stepDue => Sys2Proof.Machine.execStepDue s
  | .limitInputChange side active => Sys2Proof.Machine.execLimitInputChange side active s
  | .homeInputChange active => Sys2Proof.Machine.execHomeInputChange active s
  | .indexEdge => Sys2Proof.Machine.execIndexEdge s
  | .drvFltChange active => Sys2Proof.Machine.execDrvFltChange active s
  | .encoderChange a b => Sys2Proof.Machine.execEncoderChange a b s
  | .drvClrPulseEnd => Sys2Proof.Machine.execDrvClrPulseEnd s
  | .holdoffEnd => Sys2Proof.Machine.execHoldoffEnd s

end Sys2Proof.Machine
end

