-- ==== Sys2Proof/Safety.lean ====
section
/-! DEFINITION. What counts as a sound state of the station, in the terms the statements use: relations
between the parts of the state that the manual's rules keep at every moment. -/

namespace Sys2Proof.Machine

/-- The tables have their fixed lengths (R109, R175). -/
abbrev State.sizesOk (s : State) : Prop := s.peers.length = 32 ∧ s.groups.length = 15

/-- INSERT entries form one run at the head (R9). -/
def insertsFirst : List QueueEntry → Bool
  | [] => true
  | e :: es => if e.insert then insertsFirst es else es.all (fun x => !x.insert)

/-- At most 16 entries, the INSERT entries in one run at the head (R9). -/
abbrev State.queueOk (s : State) : Prop :=
  s.queue.entries.length ≤ 16 ∧ insertsFirst s.queue.entries = true

/-- The places taken on the stack: the residuals and the place reserved for a preemption (R73, R78). -/
def State.placesTaken (s : State) : Nat :=
  s.stack.residuals.length + (s.seq.active.map (fun a => a.reserved.toNat)).getD 0

/-- A record stopping under PREEMPT holds its place unless a fault has ended it (R47, R78). -/
def Active.placeOk (a : Active) : Bool :=
  !decide (a.disposition = some .preempt) || a.reserved || a.faultEnded

/-- At most three places of the stack are taken (R73). -/
abbrev State.stackOk (s : State) : Prop :=
  s.placesTaken ≤ 3 ∧ s.seq.active.all Active.placeOk = true

/-- The states that have an active record (R25, R26). -/
def Station.working : Station → Bool
  | .running => true
  | .stopping => true
  | .settling => true
  | .offline => false
  | .idle => false
  | .held => false
  | .armed => false
  | .faulted => false

/-- An active record is present exactly in RUNNING, STOPPING and SETTLING (R26). -/
abbrev State.recordOk (s : State) : Prop := s.seq.active.isSome = s.station.working

/-- The link before joining goes with a sequencer that is OFFLINE, and a link that is not OFFLINE with a
loaded record (R27, R164). -/
abbrev State.linkOk (s : State) : Prop :=
  (s.station = .offline ↔ (s.link.state = .offline ∨ s.link.state = .listening)) ∧
  (s.link.state ≠ .offline → s.loader.load = .loaded)

/-- A generator without a run stands still at rate 0, and one with a run does not stand still (R54). -/
abbrev State.genOk (s : State) : Prop :=
  (s.gen.phase = .standstill ↔ s.gen.run = none) ∧ (s.gen.run = none → s.gen.rate = 0)

/-- A run exists in RUNNING and STOPPING only (R25, R72). -/
abbrev State.motionOk (s : State) : Prop :=
  s.gen.run.isSome = true → s.station = .running ∨ s.station = .stopping

/-- A barrier record in phase ARMED goes with the station state ARMED (R89, R90). -/
def State.barrierArmed (s : State) : Bool := s.barrier.any (fun b => decide (b.phase = .armed))

/-- A barrier record in phase STARTED goes with an active record (R92, R93). -/
def State.barrierStarted (s : State) : Bool := s.barrier.any (fun b => decide (b.phase = .started))

/-- The barrier record fits the station state (R89 to R93). -/
abbrev State.barrierOk (s : State) : Prop :=
  s.barrierArmed = decide (s.station = .armed) ∧
  (s.barrierStarted = true → s.seq.active.isSome = true)

/-- While ARMED the candidate carries a barrier block, and its group is the barrier record's (R31, R90). -/
def State.armedOk (s : State) : Bool :=
  !decide (s.station = .armed) ||
    (match s.candidate, s.barrier with
     | some (_, w), some b => w.barrier.isSome && decide (w.group = b.group)
     | _, _ => false)

/-- A MOVE or GOTO runs under no stop and no fault: the records that chain (R40, R41). -/
def State.chaining (s : State) : Bool :=
  decide (s.station = .running) && s.seq.active.any (fun a =>
    (decide (a.work.kind = .move) || decide (a.work.kind = .goto)) && !a.faultEnded)

/-- The BOUND mark stands on the queue head alone, and only while a running record has it as its bound
successor (R8, R41, R44). -/
abbrev State.boundOk (s : State) : Prop :=
  (∀ e ∈ s.queue.entries.tail, e.bound = false) ∧
  (s.queue.entries.head?.any (fun e => e.bound) = true →
    s.chaining = true ∧ s.seq.active.any (fun a => a.bound.isSome) = true)

/-- The commit watch is set only while a record that chains runs unbraked (R63). -/
abbrev State.watchOk (s : State) : Prop :=
  s.gen.run.any (fun r => r.commitWatch) = true → s.chaining = true ∧ s.gen.phase ≠ .braking

/-- The parts of the Fault Log agree: an episode is open in all of them or in none (R182). -/
abbrev FaultLog.ok (f : FaultLog) : Prop :=
  f.current.isSome = f.first.isSome ∧ f.last.isSome = f.first.isSome ∧
  (f.first = none ↔ f.count = 0) ∧ (f.first = none ↔ f.kinds = [])

/-- The active record carries the fault-ended mark (R26). -/
def State.faultEnding (s : State) : Bool := s.seq.active.any (fun a => a.faultEnded)

/-- A station that is FAULTED, or whose record is stopping for a fault, has an episode open (R183). -/
abbrev State.faultOk (s : State) : Prop :=
  s.faults.ok ∧ (s.station = .faulted ∨ s.faultEnding = true → s.faults.first.isSome = true)

/-- The counters stay within their widths (R16, R42, R81, R139, R174, R180, R182). -/
abbrev State.countersOk (s : State) : Prop :=
  s.link.crcErrors ≤ 65535 ∧ s.link.slotViolations ≤ 255 ∧ s.link.cycleSlips ≤ 255 ∧
  s.link.droppedQueries ≤ 255 ∧ s.link.listenFailures ≤ 3 ∧ s.seq.chainBreaks ≤ 255 ∧
  s.stack.overflowCount ≤ 255 ∧ s.faults.count ≤ 255 ∧ s.follow.followed ≤ 16777215

/-- The axis never steps toward a limit that is active (R34, R129, R133, R145, R151). -/
abbrev State.limitsRespected (s : State) : Prop :=
  ∀ side : Side, s.steppingToward side = true → s.limitActive side = false

/-- A running HOME is in one of its phases, and a seek for the switch goes in its own direction (R127 to
R129). -/
def State.homingOk (s : State) : Bool :=
  !s.homingRuns || (decide (s.homing.phase ≠ .none) &&
    (decide (s.homing.phase ≠ .seek) || s.gen.run.isNone || decide (s.gen.dir = s.homing.dir)))

/-- The Follow Unit holds a phase only for an active FOLLOW record (R139). -/
abbrev State.followOk (s : State) : Prop := s.follow.phase ≠ .none → s.activeKind = some .follow

/-! ### Words for statements -/

/-- A message other than STATUS reaches its owner: the link is JOINED and the message is addressed to the
station or to ALL (R171). -/
abbrev State.addressed (s : State) (dest : Byte) : Prop :=
  s.link.state = .joined ∧ (dest.toNat = s.own ∨ dest = 255#8)

/-- The queue and the stack are empty: dispatch finds no candidate (R29). -/
abbrev State.noWork (s : State) : Prop := s.queue.entries = [] ∧ s.stack.residuals = []

/-- Dispatch does not run in this state of the station unless the station enters IDLE (R28). -/
abbrev State.busy (s : State) : Prop := s.station ≠ .idle ∧ s.station ≠ .held

/-- A heard group vector is the table's own, every entry synchronised: comparing it changes nothing
(R119). -/
abbrev State.agrees (s : State) (p : PeerStatus) : Prop :=
  ∀ i, i < s.groups.length →
    (s.groups.getD i .reset).synchronised = true ∧
    p.epochs.getD i 0 = (s.groups.getD i .reset).epoch ∧
    (p.haltedMask.getLsbD i = true ↔ (s.groups.getD i .reset).condition = .halted)

/-- No entry of the Peer Table but the own becomes LOST at a mark that opens a new cycle (R176). -/
abbrev State.noLossAtMark (s : State) : Prop :=
  ∀ a, a < 32 → a ≠ s.own → (s.peer a).presence = .present →
    (s.peer a).miss + (if (s.peer a).heard = true then 0 else 1) < s.cfg.lossLimit

/-- The state as the mark numbered `m` opens its cycle: number, timing and slip counter taken, and every
entry of the Peer Table but the own judged, with no loss among them (R166 to R168, R176, R180). -/
def State.openedBy (s : State) (m : Cycle) : State := { s with
  link := { s.link with
    cycle := m, slotTiming := true, slotPasses := false
    markTimer := if s.link.state = .joined
      then some (8 + s.cfg.span * (8 * s.cfg.slotUnits) + (s.own + 1) * 2) else none
    cycleSlips := if m = s.link.cycle + 1 then s.link.cycleSlips
      else if s.link.cycleSlips < 255 then s.link.cycleSlips + 1 else s.link.cycleSlips }
  peers := s.peers.mapIdx (fun a e =>
    if a ≠ s.own ∧ e.presence = .present ∧ e.heard = false
    then { e with miss := e.miss + 1, heard := false } else { e with heard := false }) }

/-- An open run from Fs that has emitted its first step (R57, R60, R70), with the end rate of log 39. -/
def Run.seekBegun (p : Profile) : Run :=
  { kind := .openRun, count := none, emitted := 1, profile := p, endRate := p.fs, baseRate := p.fs
    baseSteps := 1, commitWatch := false
    nextRate := if p.fs = p.ft then p.ft else min p.ft (Nat.sqrt (p.fs * p.fs + 2 * p.a)) }

/-- A generator whose run has emitted a step in a direction at a rate, in a phase (R57 to R59). -/
def Gen.stepped (g : Gen) (c : Settings) (d : Side) (phase : GenPhase) (rate : Nat) (r : Run) : Gen where
  phase := phase
  rate := rate
  dir := d
  dirHigh := match d with
    | .pos => !c.reversed
    | .neg => c.reversed
  run := some r
  position := match d with
    | .pos => g.position + 1
    | .neg => g.position - 1

/-- The queue with a refusal of a message recorded (R16). -/
def SegQueue.refused (q : SegQueue) (kind : MsgKind) (tag : Option Tag) (reason : Reason) : SegQueue :=
  { q with refusal := ⟨some kind, tag, some reason, q.refusal.count + 1⟩ }

/-- The queue with every BOUND mark cleared (R44). -/
def SegQueue.unbound (q : SegQueue) : SegQueue :=
  { q with entries := q.entries.map (fun e => { e with bound := false }) }

/-- The state after a list of commands, the first first; it stops at one that does not answer a next
state. -/
def runCommands : List Instr → State → Host.Outcome State Fault Refusal
  | [], s => .next s
  | c :: cs, s =>
    match exec c s with
    | .next t => runCommands cs t
    | .fault r => .fault r
    | .refused r => .refused r

/-- The command that a message of a frame stands for; none for a REPORT and for a kind the station does
not know (R171, 13.2). -/
def Message.command (sender : Nat) (m : Message) : Option Instr :=
  match m.kind.toNat with
  | 1 => some (.segment sender m.dest m.body)
  | 2 => some (.flush sender m.dest m.body)
  | 3 => some (.stop sender m.dest m.body)
  | 4 => some (.resume sender m.dest m.body)
  | 5 => some (.setPosition sender m.dest m.body)
  | 6 => some (.halt sender m.dest m.body)
  | 7 => some (.release sender m.dest m.body)
  | 8 => some (.clearFault sender m.dest m.body)
  | 9 => some (.query sender m.dest m.body)
  | 10 => some (.stationReset sender m.dest m.body)
  | 16 => some (.status sender m.dest m.body)
  | _ => none

/-- The payload that a list of messages makes (13.1). -/
def payloadOf (ms : List Message) : List Byte := (ms.map (fun m => messageBytes m.kind m.dest m.body)).flatten

/-- The sequencer once its active record has ended with a result (R36). -/
def Sequencer.ended (q : Sequencer) (station : Station) (tag : Tag) (result : Result) : Sequencer :=
  { q with station := station, active := none, lastFinished := some (tag, result) }

/-! ### Invariants that every step keeps -/

/-- The active record, the station state and the link state fit together. -/
abbrev State.recordInv (s : State) : Prop := s.recordOk ∧ s.linkOk

/-- BOUND marks and the commit watch go with a running record that chains. -/
abbrev State.chainInv (s : State) : Prop := s.recordInv ∧ s.boundOk ∧ s.watchOk

/-- The generator moves only for a working record, and never toward an active limit. -/
abbrev State.motionInv (s : State) : Prop :=
  s.recordInv ∧ s.genOk ∧ s.motionOk ∧ s.homingOk = true ∧ s.followOk ∧ s.limitsRespected

/-- The barrier record fits the station state, and while ARMED the candidate. -/
abbrev State.barrierInv (s : State) : Prop :=
  s.recordInv ∧ s.queueOk ∧ s.barrierOk ∧ s.armedOk = true

/-- The Fault Log fits the station state. -/
abbrev State.faultInv (s : State) : Prop := s.recordInv ∧ s.faultOk

end Sys2Proof.Machine
end

