-- ==== Sys2Proof/Certificates/Slice0/Obligations.lean ====
section
/-! DEFINITION. The statements for the provers. A rule in a docstring is the rule of spec/ the statement
comes from; OBLIGATIONS.json says which of them it states whole. -/

open Sys2Proof Sys2Proof.Machine

/-! ### The step, start-up and configuration -/

/-- One step runs the front command on the state with the rest of the queue, and idles on an empty
queue. The queue of commands is the model's (log 1), and so is that an ACTIVE ENC-Z may become INACTIVE
there and nothing else can change (log 11). -/
def Obligations.StepRunsTheFrontCommand : Prop :=
  (∀ (c : Instr) (rest : List Instr) (s : State), s.pending = c :: rest →
    step s = exec c { s with pending := rest }) ∧
  (∀ s : State, s.pending = [] →
    (s.drive.encZ = false → step s = .next s) ∧
    (s.drive.encZ = true → ∃ z, step s = .next { s with
      drive := { s.drive with encZ := z }, indexCount := s.indexCount + 1 }))

/-- Every command completes in every state, and none touches the queue of commands that wait. The queue
is the model's (log 1), and so is the next state of a command that cannot come about (log 3) and of a
state that no run reaches (log 26). -/
def Obligations.EveryCommandCompletes : Prop :=
  ∀ (c : Instr) (s : State), ∃ t, exec c s = .next t ∧ t.pending = s.pending

/-- POWER_ON and PIN_RESET put every block in its power-on values (R190 and the reset rules of each
chapter). That POWER_ON keeps the level of the RESET line is the model's choice (log 10), and the three
counts behind its free values are its own (logs 11, 16 and 32). -/
def Obligations.PowerOnAndPinResetValues : Prop :=
  (∀ s : State,
    exec .powerOn s = .next { State.reset with
      loader := { State.reset.loader with resetPin := s.loader.resetPin }
      openCount := s.openCount, restCount := s.restCount, indexCount := s.indexCount
      pending := s.pending } ∧
    exec .pinReset s = .next { State.reset with
      loader := { State.reset.loader with resetPin := true }
      openCount := s.openCount, restCount := s.restCount, indexCount := s.indexCount
      pending := s.pending }) ∧
  State.reset.loader.load = .loading ∧
  (State.reset.link.state = .offline ∧ State.reset.link.cycle = 0 ∧ State.reset.link.lastMark = none ∧
    State.reset.link.query = none ∧ State.reset.link.listenFailures = 0 ∧
    State.reset.link.crcErrors = 0 ∧ State.reset.link.slotViolations = 0 ∧
    State.reset.link.cycleSlips = 0 ∧ State.reset.link.droppedQueries = 0) ∧
  State.reset.peers = List.replicate 32 ⟨.unknown, 0, false, none⟩ ∧
  State.reset.queue = ⟨[], 0, true, ⟨none, none, none, 0⟩⟩ ∧
  State.reset.seq = ⟨.offline, none, false, none, 0, false⟩ ∧
  State.reset.stack = ⟨[], false, 0⟩ ∧
  State.reset.gen = ⟨.standstill, 0, .pos, false, none, 0⟩ ∧
  State.reset.barrier = none ∧
  State.reset.groups = List.replicate 15 ⟨0, .clear, false, .none, none, 0⟩ ∧
  State.reset.homing.phase = .none ∧ State.reset.follow.phase = .none ∧
  State.reset.drive = ⟨false, false, false, false, false, false, false, .none, none, none⟩ ∧
  State.reset.encoder = ⟨0, 0, none, none⟩ ∧
  State.reset.faults = ⟨none, none, none, 0, []⟩

/-- The configuration record is accepted exactly when it has its 39 bytes, its checksum is the sum of
the bytes before it and every field is in range; its fields are read as 13.7 lays them out (R191,
R192). That a record of another length fails is the model's choice (log 18). -/
def Obligations.ConfigurationRecordIsJudged : Prop :=
  ∀ bytes : List Byte,
    ((settingsOf bytes).isSome = true ↔
      bytes.length = 39 ∧
      fieldNat bytes 37 2 = ((bytes.take 37).map BitVec.toNat).sum % 65536 ∧
      (byteAt bytes 0).toNat ≤ 1 ∧ (byteAt bytes 1).toNat ≤ 31 ∧
      ((byteAt bytes 2).toNat = 8 ∨ (byteAt bytes 2).toNat = 16 ∨ (byteAt bytes 2).toNat = 32) ∧
      (12 ≤ (byteAt bytes 3).toNat ∧ (byteAt bytes 3).toNat ≤ 24) ∧
      (2 ≤ (byteAt bytes 4).toNat ∧ (byteAt bytes 4).toNat ≤ 8) ∧
      (2 ≤ (byteAt bytes 5).toNat ∧ (byteAt bytes 5).toNat ≤ 15) ∧
      (1 ≤ fieldNat bytes 6 4 ∧ fieldNat bytes 6 4 ≤ fieldNat bytes 10 4 ∧
        fieldNat bytes 10 4 ≤ 1000000) ∧
      (1 ≤ fieldNat bytes 14 4 ∧ fieldNat bytes 14 4 ≤ 16777215) ∧
      (1 ≤ fieldNat bytes 18 4 ∧ fieldNat bytes 18 4 ≤ 16777215) ∧
      (byteAt bytes 22).toNat ≤ 4 ∧
      (1 ≤ (byteAt bytes 23).toNat ∧ (byteAt bytes 23).toNat ≤ 4) ∧
      fieldNat bytes 24 2 ≤ 4095 ∧ 1 ≤ (byteAt bytes 27).toNat ∧
      (byteAt bytes 30).toNat ≤ 1 ∧ 1 ≤ (byteAt bytes 31).toNat ∧
      (1 ≤ fieldNat bytes 33 2 ∧ fieldNat bytes 33 2 ≤ 4095) ∧
      (byteAt bytes 36).toNat ≤ 1) ∧
    (∀ c : Settings, settingsOf bytes = some c →
      c.span = (byteAt bytes 2).toNat ∧ c.slotUnits = (byteAt bytes 3).toNat ∧
      c.lead = (byteAt bytes 4).toNat ∧ c.lossLimit = (byteAt bytes 5).toNat ∧
      c.defaultProfile = ⟨fieldNat bytes 6 4, fieldNat bytes 10 4, fieldNat bytes 14 4,
        fieldNat bytes 18 4⟩ ∧
      c.encoderMode = (match (byteAt bytes 22).toNat with
        | 0 => .off
        | 1 => .quad1
        | 2 => .quad2
        | 3 => .quad4
        | _ => .upDown) ∧
      c.divisor = (byteAt bytes 23).toNat ∧ c.followingWindow = fieldNat bytes 24 2 ∧
      c.settleWindow = (byteAt bytes 26).toNat ∧ c.settleTimeout = (byteAt bytes 27).toNat ∧
      c.clearance = fieldNat bytes 28 2 ∧ (c.clrEnabled = true ↔ (byteAt bytes 30).toNat = 1) ∧
      c.clrLength = (byteAt bytes 31).toNat ∧
      c.holdoff = (byteAt bytes 32).toNat ∧ c.catchUp = fieldNat bytes 33 2 ∧
      (∀ k, k < 7 → c.polarities.getLsbD k = (byteAt bytes 35).getLsbD k) ∧
      (c.reversed = true ↔ (byteAt bytes 36).toNat = 1) ∧
      (∀ straps : BitVec 5, addressOf c straps =
        if (byteAt bytes 0).toNat = 1 then (byteAt bytes 1).toNat else straps.toNat))

/-- A load ends FAILED when the memory does not answer, when the record is not sound, or when the
address is at or above the span: nothing else changes and FAULT is asserted. The load begins when
the RESET pin is released (R190, R191, R194). -/
def Obligations.FailedLoadLeavesEverythingElse : Prop :=
  ∀ s : State,
    (s.loader.resetPin = true →
      exec .resetPinRelease s = .next { s with loader := { s.loader with resetPin := false } }) ∧
    (s.loader.load = .loading → s.loader.resetPin = false →
      ∃ t, t = { s with loader := { s.loader with load := .failed } } ∧ t.faultOutput = true ∧
        exec .configReadTimeout s = .next t ∧
        ∀ (bytes : List Byte) (straps : BitVec 5) (levels : BitVec 7),
          (settingsOf bytes = none ∨
            ∃ c, settingsOf bytes = some c ∧ c.span ≤ addressOf c straps) →
          exec (.configLoadDone bytes straps levels) s = .next t)

/-- A sound record is put into use: conditioned inputs, encoder pair, DIR, and the link LISTENING with
its silence timer of four nominal cycles (R59, R150, R162, R169, R191, R193). -/
def Obligations.SuccessfulLoadPutsTheRecordIntoUse : Prop :=
  ∀ (s : State) (bytes : List Byte) (straps : BitVec 5) (levels : BitVec 7) (c : Settings),
    s.loader.load = .loading → s.loader.resetPin = false → settingsOf bytes = some c →
    addressOf c straps < c.span →
    exec (.configLoadDone bytes straps levels) s = .next { s with
      loader := { s.loader with load := .loaded, settings := c, address := addressOf c straps }
      drive := { s.drive with
        limPos := (c.polarities.getLsbD 0 == levels.getLsbD 0)
        limNeg := (c.polarities.getLsbD 1 == levels.getLsbD 1)
        home := (c.polarities.getLsbD 2 == levels.getLsbD 2)
        drvFlt := (c.polarities.getLsbD 3 == levels.getLsbD 3)
        encA := (c.polarities.getLsbD 4 == levels.getLsbD 4)
        encB := (c.polarities.getLsbD 5 == levels.getLsbD 5)
        encZ := (c.polarities.getLsbD 6 == levels.getLsbD 6) }
      encoder := { s.encoder with
        pair := some (c.polarities.getLsbD 4 == levels.getLsbD 4,
          c.polarities.getLsbD 5 == levels.getLsbD 5) }
      gen := { s.gen with dirHigh := !c.reversed }
      link := { s.link with
        state := .listening
        silenceTimer := some (4 * (8 + c.span * (8 * c.slotUnits))) } }

/-- The record is not read again: settings, address and load state stay until POWER_ON or PIN_RESET
(R191, R193). -/
def Obligations.SettingsStayAfterTheLoad : Prop :=
  ∀ (c : Instr) (s t : State), s.loader.load = .loaded → c ≠ .powerOn → c ≠ .pinReset →
    exec c s = .next t →
    t.loader.load = .loaded ∧ t.loader.settings = s.loader.settings ∧
      t.loader.address = s.loader.address

/-! ### Marks -/

/-- A mark whose check byte is wrong is not heard and changes nothing (R165, 13.1). -/
def Obligations.MarkWithWrongCheckByteIsNotHeard : Prop :=
  ∀ (s : State) (m : Cycle) (check : Byte),
    check ≠ ~~~(m.setWidth 8 + (m >>> 8).setWidth 8) →
    exec (.markHeard m check) s = .next s

/-- A LISTENING station records each mark and joins at the second of a pair or at the end of its silence
timer; it enters IDLE, or FAULTED when DRV-FLT is active on that entry (R27, R152, R169). That the recorded
mark is emptied at joining is the model's choice (log 38). -/
def Obligations.ListeningStationJoins : Prop :=
  ∀ s : State, s.link.state = .listening →
    (∀ m : Cycle, s.link.lastMark ≠ some (m - 1) → exec (.markHeard m (markCheck m)) s =
      .next { s with
        peers := s.peers.map (fun e => { e with heard := false })
        link := { s.link with
          cycle := m, lastMark := some m, slotTiming := true
          silenceTimer := some (4 * (8 + s.cfg.span * (8 * s.cfg.slotUnits))) } }) ∧
    (s.station = .offline → s.noWork → s.drive.drvFlt = false → s.errorBeyond = false →
      (∀ m : Cycle, s.link.lastMark = some (m - 1) → exec (.markHeard m (markCheck m)) s =
        .next { s with
          peers := s.peers.map (fun e => { e with heard := false })
          link := { s.link with
            state := .joined, cycle := m, lastMark := none, slotPasses := true
            markTimer := some s.markTimerLength, silenceTimer := none, slotTiming := true }
          seq := { s.seq with station := .idle } }) ∧
      exec .silenceTimerExpiry s = .next { s with
        peers := s.peers.map (fun e => { e with heard := false })
        link := { s.link with
          state := .joined, cycle := 0, lastMark := none, slotPasses := false
          markSent := some [0, 0, 255]
          markTimer := some s.markTimerLength, silenceTimer := none, slotTiming := true }
        seq := { s.seq with station := .idle } }) ∧
    (s.drive.drvFlt = true → s.errorBeyond = false →
      ∃ t, exec .silenceTimerExpiry s = .next t ∧ t.link.state = .joined ∧ t.station = .faulted ∧
        t.faults.current = some .driveFault ∧ t.seq.homed = false)

/-- A mark that opens a new cycle gives the cycle its number, restarts the timing and ends a joining
cycle; a mark of any number but the next is a slip and is counted. A repeat mark restarts the mark
timer of a JOINED station and the slot timing, and changes nothing else. The mark timer's length is
one nominal cycle plus (address + 1) × 2 µs (R166 to R168, R180). The expiry of the mark timer sends the
three bytes of the next mark and acts as that mark heard; the timer of a station that is not JOINED
does not run, and its expiry changes nothing (log 3). A mark that opens a new cycle brings about, in
the cycle it opens, what counts marks: the barrier start at S or one more cycle of the barrier wait,
the dwell end, the settle count and the silence count, each with its fault at the limit; a slip
faults a barrier whose S is known and re-arms one whose S is not (R38, R99, R100, R106, R107, R147,
R160, R167). -/
def Obligations.MarksGiveTheCycleItsNumber : Prop :=
  ∀ s : State,
    let timer := 8 + s.cfg.span * (8 * s.cfg.slotUnits) + (s.own + 1) * 2
    (s.link.state = .joined → exec (.markHeard s.link.cycle (markCheck s.link.cycle)) s =
      .next { s with link := { s.link with slotTiming := true, markTimer := some timer } }) ∧
    (s.link.state = .silent → exec (.markHeard s.link.cycle (markCheck s.link.cycle)) s =
      .next { s with link := { s.link with slotTiming := true, markTimer := none } }) ∧
    (s.link.state = .joined →
      let next := s.link.cycle + 1
      let sent : State := { s with link := { s.link with
        markSent := some [next.setWidth 8, (next >>> 8).setWidth 8,
          ~~~(next.setWidth 8 + (next >>> 8).setWidth 8)] } }
      exec .markTimerExpiry s = exec (.markHeard next (markCheck next)) sent ∧
      ∃ t, exec .markTimerExpiry s = .next t ∧ t.link = { sent.link with
        cycle := next, slotTiming := true, slotPasses := false, markTimer := some timer }) ∧
    (s.link.state ≠ .joined → exec .markTimerExpiry s = .next s) ∧
    (∀ m : Cycle, s.link.state = .joined ∨ s.link.state = .silent → m ≠ s.link.cycle →
      ∃ t, exec (.markHeard m (markCheck m)) s = .next t ∧ t.link = { s.link with
        cycle := m, slotTiming := true, slotPasses := false
        markTimer := if s.link.state = .joined then some timer else none
        cycleSlips :=
          if m = s.link.cycle + 1 then s.link.cycleSlips
          else if s.link.cycleSlips < 255 then s.link.cycleSlips + 1 else s.link.cycleSlips }) ∧
    (∀ m : Cycle, s.link.state = .joined ∨ s.link.state = .silent → m ≠ s.link.cycle →
      s.noLossAtMark →
      let mark := exec (.markHeard m (markCheck m)) s
      let o := s.openedBy m
      (s.station ≠ .armed → s.station ≠ .settling →
        ¬(s.station = .running ∧ (s.activeKind = some .dwell ∨ s.follow.phase = .tracking)) →
        mark = .next o) ∧
      (∀ b, s.station = .armed → s.barrier = some b → b.phase = .armed →
        (m = s.link.cycle + 1 →
          (b.start = some m → mark = exec .barrierStart o) ∧
          (∀ S, b.start = some S → S ≠ m → mark = .next o) ∧
          (b.start = none → mark = exec .barrierTimeout { o with barrier := some { b with
            waitCount := if b.waitCount < 65535 then b.waitCount + 1 else b.waitCount } })) ∧
        (m ≠ s.link.cycle + 1 →
          (b.start = none →
            mark = .next { o with barrier := some { b with since := m, confirmed := 0 } }) ∧
          (b.start ≠ none → ∃ t, mark = .next t ∧ t.station = .faulted ∧ t.barrier = none ∧
            t.faults.current = some .cycleSlip ∧ t.queue = s.queue ∧ t.stack = s.stack))) ∧
      (∀ a, s.station = .running → s.seq.active = some a → a.work.kind = .dwell → s.noWork →
        m = s.link.cycle + 1 → mark = exec .dwellEnd o) ∧
      (∀ n, s.station = .settling → s.encoder.settle = some n →
        mark = exec .settleTimeout { o with encoder := { s.encoder with settle := some (n + 1) } }) ∧
      (s.station = .running → s.activeKind ≠ some .dwell → s.follow.phase = .tracking →
        mark = exec .followLost { o with follow := { s.follow with silence := s.follow.silence + 1 } }))

/-- At a mark that opens a new cycle each entry of the Peer Table but the own is judged, and every heard
mark is cleared (R176). -/
def Obligations.NewCycleJudgesThePeerTable : Prop :=
  ∀ (s t : State) (m : Cycle) (a : Nat),
    s.link.state = .joined ∨ s.link.state = .silent → m ≠ s.link.cycle →
    s.peers.length = 32 → a < 32 →
    ((s.peer a).presence = .present → (s.peer a).miss < s.cfg.lossLimit) →
    exec (.markHeard m (markCheck m)) s = .next t →
    t.peer a =
      if a ≠ s.own ∧ (s.peer a).presence = .present ∧ (s.peer a).heard = false then
        { s.peer a with
          presence := if s.cfg.lossLimit ≤ (s.peer a).miss + 1 then .lost else .present
          miss := (s.peer a).miss + 1, heard := false }
      else { s.peer a with heard := false }

/-- An entry whose miss count has reached K becomes LOST; a station ARMED with that member halts the
barrier's group with cause PEER_LOST and becomes HELD (R102, R103, R116, R176). An entry that is not
due changes nothing (log 3); the command brings about this loss alone (log 4). -/
def Obligations.PeerLossActsOnEntryAndBarrier : Prop :=
  ∀ (s : State) (a : Nat), s.follow.phase = .none →
    (a ≠ s.own → (s.peer a).presence = .present → s.cfg.lossLimit ≤ (s.peer a).miss →
      ((∀ b, s.barrier = some b → b.mask.getLsbD a = false) →
        exec (.peerLost a) s =
          .next { s with peers := s.peers.set a { s.peer a with presence := .lost } }) ∧
      (∀ b, s.barrier = some b → b.mask.getLsbD a = true → s.station = .armed →
        1 ≤ b.group → b.group ≤ 15 → s.groups.length = 15 → (s.group b.group).condition = .clear →
        exec (.peerLost a) s = .next { s with
          peers := s.peers.set a { s.peer a with presence := .lost }
          groups := s.groups.set (b.group - 1)
            ⟨(s.group b.group).epoch + 1, .halted, true, .peerLost, some a, s.link.cycle⟩
          barrier := none
          seq := { s.seq with station := .held } })) ∧
    (¬(a ≠ s.own ∧ (s.peer a).presence = .present ∧ s.cfg.lossLimit ≤ (s.peer a).miss) →
      exec (.peerLost a) s = .next s)

/-- A DWELL ends DONE at the mark of its dwell end, and FAULTED with CYCLE_SLIP at a slip (R38). That it
does so where a member of its barrier is lost at the same mark is the model's choice (log 5). A
DWELL_END at any other cycle number changes nothing (log 3). -/
def Obligations.DwellEndsAtItsMarkAndFaultsAtASlip : Prop :=
  ∀ (s : State) (a : Active), s.station = .running → s.seq.active = some a →
    a.work.kind = .dwell →
    (a.dwellEnd = some s.link.cycle → s.noWork →
      exec .dwellEnd s = .next { s with
        seq := s.seq.ended .idle a.work.tag .done
        gen := s.gen.ceased, homing := .reset, follow := .reset
        encoder := { s.encoder with settle := none }, barrier := none }) ∧
    (a.dwellEnd ≠ some s.link.cycle → exec .dwellEnd s = .next s) ∧
    (∀ m : Cycle, s.link.state = .joined ∨ s.link.state = .silent → m ≠ s.link.cycle →
      m ≠ s.link.cycle + 1 →
      ∃ t, exec (.markHeard m (markCheck m)) s = .next t ∧
        t.seq = s.seq.ended .faulted a.work.tag .faulted ∧ t.faults.current = some .cycleSlip ∧
        t.stack = s.stack ∧ t.drive = s.drive ∧ t.gen.position = s.gen.position)

/-- BARRIER_TIMEOUT at the wait limit takes an ARMED station to FAULTED with its candidate in place,
SETTLE_TIMEOUT ends a settling record FAULTED, and FOLLOW_LOST ends a FOLLOW, at once from STANDSTILL
and by braking from a payment run faster than its start rate; each halts the involved groups, and
none pulses DRV-CLR or clears HOMED (R49, R66, R71, R100, R101, R115, R147, R160). The rate of a
payment run is its flat rate (R71, R148; log 34). Where the condition of the command does not stand it
changes nothing (log 3). -/
def Obligations.CountedWaitsFault : Prop :=
  (∀ (s : State) (b : BarrierRec), s.station = .armed → s.barrier = some b → b.phase = .armed →
    b.start = none →
    (b.waitLimit ≠ 0 → b.waitLimit ≤ b.waitCount →
      exec .barrierTimeout s = .next { s with
        faults := s.faults.record ⟨.barrierTimeout, s.link.cycle, none, s.gen.position⟩
        groups := (s.raiseInvolved .fault s.own).groups
        barrier := none
        seq := { s.seq with station := .faulted } }) ∧
    (b.waitLimit = 0 ∨ b.waitCount < b.waitLimit → exec .barrierTimeout s = .next s)) ∧
  (∀ (s : State) (a : Active) (n : Nat), s.station = .settling → s.seq.active = some a →
    s.encoder.settle = some n →
    (s.cfg.settleTimeout ≤ n →
      exec .settleTimeout s = .next { s with
        faults := s.faults.record ⟨.settleTimeout, s.link.cycle, some a.work.tag, s.gen.position⟩
        groups := (s.raiseInvolved .fault s.own).groups
        seq := s.seq.ended .faulted a.work.tag .faulted
        gen := s.gen.ceased, homing := .reset, follow := .reset
        encoder := { s.encoder with settle := none }, barrier := none }) ∧
    (n < s.cfg.settleTimeout → exec .settleTimeout s = .next s)) ∧
  (∀ (s : State) (a : Active), s.station = .running → s.seq.active = some a →
     a.work.kind = .follow → s.follow.phase = .tracking →
     (s.cfg.lossLimit ≤ s.follow.silence ∨ (s.peer s.follow.leader).presence = .lost →
       (s.gen.phase = .standstill →
         exec .followLost s = .next { s with
           faults := s.faults.record ⟨.followLost, s.link.cycle, some a.work.tag, s.gen.position⟩
           groups := (s.raiseInvolved .fault s.own).groups
           queue := s.queue.unbound
           seq := s.seq.ended .faulted a.work.tag .faulted
           gen := s.gen.ceased, homing := .reset, follow := .reset
           encoder := { s.encoder with settle := none }, barrier := none }) ∧
       (∀ r, s.gen.phase = .flat → s.gen.run = some r → r.profile.fs < r.baseRate →
         exec .followLost s = .next { s with
           faults := s.faults.record ⟨.followLost, s.link.cycle, some a.work.tag, s.gen.position⟩
           groups := (s.raiseInvolved .fault s.own).groups
           queue := s.queue.unbound
           seq := { s.seq with
             station := .stopping
             active := some { a with
               disposition := some .abort, faultEnded := true, reserved := false, bound := none } }
           gen := s.gen.brake
           follow := { s.follow with
             phase := .ceased, owed := 0, remainder := 0, turning := none } })) ∧
     (¬(s.cfg.lossLimit ≤ s.follow.silence ∨ (s.peer s.follow.leader).presence = .lost) →
       exec .followLost s = .next s))

/-! ### Barriers -/

/-- A candidate with a barrier block that passes the gates is armed: its barrier record is formed, and a
member already LOST halts the group instead and leaves the station HELD. With every member ready S
is the latest since-cycle plus the lead, or the fault BARRIER_LATE; an advertisement of the same
barrier with another mask, or of a later barrier number of the group, is BARRIER_MISMATCH, and any other
leaves the member not ready (R90, R94 to R98, R102, R103). That the lowest address
among several LOST members is the originator is the model's choice (log 5). -/
def Obligations.BarrierArmsAndComputesS : Prop :=
  (∀ (s : State) (sender : Nat) (dest : Byte) (e : QueueEntry) (es : List QueueEntry)
    (k : BarrierBlock), s.addressed dest → s.station = .idle → s.seq.paused = true →
    s.drive.clear = .none → s.stack.residuals = [] → s.queue.entries = e :: es →
    e.barrier = some k → 1 ≤ e.group → e.group ≤ 15 → (s.group e.group).condition = .clear →
    s.own < 32 → 0 < s.cfg.lead → s.groups.length = 15 →
    let b : BarrierRec := ⟨e.group, k.number, (s.group e.group).epoch, k.mask, k.waitLimit,
      s.link.cycle, .armed, none, 0, k.mask &&& ~~~(1#32 <<< s.own)⟩
    (k.mask = 1#32 <<< s.own → exec (.resume sender dest []) s = .next { s with
      seq := { s.seq with paused := false, station := .armed }
      barrier := some { b with start := some (s.link.cycle + BitVec.ofNat 16 s.cfg.lead) } }) ∧
    ((∃ m, m < 32 ∧ m ≠ s.own ∧ k.mask.getLsbD m = true) →
      (∀ m, m < 32 → m ≠ s.own → k.mask.getLsbD m = true → (s.peer m).presence = .unknown) →
      exec (.resume sender dest []) s = .next { s with
        seq := { s.seq with paused := false, station := .armed }, barrier := some b }) ∧
    (∀ m, m < 32 → m ≠ s.own → k.mask.getLsbD m = true → (s.peer m).presence = .lost →
      (∀ x, x < m → x ≠ s.own → k.mask.getLsbD x = true → (s.peer x).presence ≠ .lost) →
      exec (.resume sender dest []) s = .next { s with
        seq := { s.seq with paused := false, station := .held }
        groups := s.groups.set (e.group - 1)
          ⟨(s.group e.group).epoch + 1, .halted, true, .peerLost, some m, s.link.cycle⟩
        barrier := none })) ∧
  (∀ (s : State) (sender : Nat) (dest : Byte) (body : List Byte) (b : BarrierRec) (p : PeerStatus),
    s.link.state = .joined → s.station = .armed → s.barrier = some b → b.phase = .armed →
    b.start = none → s.own < 32 → sender < 32 → sender ≠ s.own → s.peers.length = 32 →
    b.mask = 1#32 <<< s.own ||| 1#32 <<< sender → (s.peer sender).presence = .present →
    statusOf body = some p → s.agrees p →
    let heard : State := { s with
      peers := s.peers.set sender { s.peer sender with status := some p }
      barrier := some { b with confirmed := b.confirmed ||| 1#32 <<< sender } }
    let same := p.adv.present = true ∧ p.adv.group.toNat = b.group ∧ p.adv.number = b.number ∧
      p.adv.epoch = b.epoch
    let latest := if (s.link.cycle - p.adv.since).toNat < (s.link.cycle - b.since).toNat
      then p.adv.since else b.since
    let later := 1 ≤ (p.adv.number - b.number).toNat ∧ (p.adv.number - b.number).toNat ≤ 127
    (p.adv.present = false ∨ p.adv.group.toNat ≠ b.group ∨
        (p.adv.number = b.number ∧ p.adv.epoch ≠ b.epoch) ∨
        (p.adv.number ≠ b.number ∧ ¬later) →
      exec (.status sender dest body) s = .next heard) ∧
    (p.adv.present = true ∧ p.adv.group.toNat = b.group ∧ later →
      ∃ t, exec (.status sender dest body) s = .next t ∧ t.barrier = none ∧ t.station = .faulted ∧
        t.faults.current = some .barrierMismatch) ∧
    (same → p.adv.mask ≠ b.mask →
      ∃ t, exec (.status sender dest body) s = .next t ∧ t.barrier = none ∧ t.station = .faulted ∧
        t.faults.current = some .barrierMismatch) ∧
    (same → p.adv.mask = b.mask → s.cfg.lead ≤ (s.link.cycle - latest).toNat →
      ∃ t, exec (.status sender dest body) s = .next t ∧ t.barrier = none ∧ t.station = .faulted ∧
        t.faults.current = some .barrierLate) ∧
    (same → p.adv.mask = b.mask → (s.link.cycle - latest).toNat < s.cfg.lead →
      exec (.status sender dest body) s = .next { heard with
        barrier := some { b with
          confirmed := b.confirmed ||| 1#32 <<< sender
          start := some (latest + BitVec.ofNat 16 s.cfg.lead) } }))

/-- At the mark numbered S an armed DWELL at the queue head starts, its dwell end S plus its cycles, and
the barrier record becomes STARTED with its other fields kept (R33, R38, R92, R99); at any other cycle
number nothing happens (log 3). -/
def Obligations.BarrierDwellStartsAtS : Prop :=
  ∀ (s : State) (b : BarrierRec) (e : QueueEntry) (es : List QueueEntry) (n : Nat),
    s.station = .armed → s.barrier = some b → b.phase = .armed →
    s.queue.entries = e :: es → (s.stack.residuals = [] ∨ e.insert = true) → e.body = .dwell n →
    (b.start = some s.link.cycle →
      exec .barrierStart s = .next { s with
        queue := { s.queue with entries := es }
        barrier := some { b with phase := .started }
        seq := { s.seq with
          station := .running
          active := some ⟨.segment e, none, false, false, none,
            some (s.link.cycle + BitVec.ofNat 16 n)⟩ } }) ∧
    (b.start ≠ some s.link.cycle → exec .barrierStart s = .next s)

/-- An ARMED station begins work only at the mark numbered S of its barrier record (R32, R99). That the
candidate of an ARMED station is the one it is armed for is `BarrierInvariantIsKept`. -/
def Obligations.ArmedStationStartsOnlyAtS : Prop :=
  ∀ (c : Instr) (s t : State), s.station = .armed → s.linkOk → s.armedOk = true →
    (∀ own since bytes, c ≠ .frameReceived own since bytes) →
    exec c s = .next t → t.station = .running →
    ∃ b, s.barrier = some b ∧ b.start = some t.link.cycle

/-! ### Frames and what the own slot sends -/

/-- The own frame, heard during its own transmission, acts as LISTEN_BACK and is not checked (log 19).
Another transmission that begins in the mark window is taken as a mark: three bytes act as MARK_HEARD
with their number and check byte, and any other length is no mark and changes nothing (log 8). Outside
the window a frame that fails a check is dropped and counted, and changes nothing else; a valid frame
without messages gives presence to its sender and changes nothing else. A frame passes the CRC check when its
length byte is at most 128 and its last four bytes are the CRC-32 of the bytes before them as 13.1
computes it. Moments are in nanoseconds from the start of the last mark (R163, R164, R170, R174,
R176, R180). That a number of bytes that does not fit the length byte counts as a CRC error is the
model's reading (log 37). -/
def Obligations.FrameCheckDropsOrGivesPresence : Prop :=
  ∀ (s : State) (since : Nat) (bytes : List Byte),
    (s.link.state = .offline → ∀ own, exec (.frameReceived own since bytes) s = .next s) ∧
    exec (.frameReceived true since bytes) s = exec (.listenBack (some bytes)) s ∧
    (s.link.slotTiming = true → since < 8000 →
      (bytes.length = 3 → exec (.frameReceived false since bytes) s =
        exec (.markHeard (BitVec.ofNat 16 (fieldNat bytes 0 2)) (byteAt bytes 2)) s) ∧
      (bytes.length ≠ 3 → exec (.frameReceived false since bytes) s = .next s)) ∧
    (s.link.state ≠ .offline → ¬(s.link.slotTiming = true ∧ since < 8000) → 0 < s.cfg.slotUnits →
      let shift : BitVec 32 → BitVec 32 := fun r =>
        if r.getLsbD 0 = true then (r >>> 1) ^^^ 0xEDB88320#32 else r >>> 1
      let crc : List Byte → BitVec 32 := fun l => ~~~(l.foldl (fun r b =>
        shift (shift (shift (shift (shift (shift (shift (shift (r ^^^ b.setWidth 32)))))))))
        0xFFFFFFFF#32)
      let n := (byteAt bytes 1).toNat
      let sound := n ≤ 128 ∧ bytes.length = n + 6 ∧
        fieldNat bytes (n + 2) 4 = (crc (bytes.take (n + 2))).toNat
      let sender := (byteAt bytes 0).toNat
      let slot := 8000 * s.cfg.slotUnits
      let inOwnSlot := s.link.slotTiming = true ∧ sender < s.cfg.span ∧
        8000 + sender * slot ≤ since ∧ since < 8000 + (sender + 1) * slot
      (¬sound →
        exec (.frameReceived false since bytes) s = .next { s with link := { s.link with
          crcErrors :=
            if s.link.crcErrors < 65535 then s.link.crcErrors + 1 else s.link.crcErrors } }) ∧
      (sound → (sender = s.own ∨ ¬inOwnSlot) →
        exec (.frameReceived false since bytes) s = .next { s with link := { s.link with
          slotViolations :=
            if s.link.slotViolations < 255 then s.link.slotViolations + 1
            else s.link.slotViolations } }) ∧
      (sound → sender ≠ s.own → inOwnSlot → n = 0 →
        exec (.frameReceived false since bytes) s = .next { s with
          peers := s.peers.set sender
            { s.peer sender with presence := .present, miss := 0, heard := true } }))

/-- A frame made from a list of messages is sound, and its sender and messages are read back as they
were written (13.1, R170, R171). -/
def Obligations.FrameIsReadBackAsWritten : Prop :=
  ∀ (sender : Nat) (ms : List Message), sender < 32 → (payloadOf ms).length ≤ 128 →
    frameSound (frameOf sender (payloadOf ms)) = true ∧
    (byteAt (frameOf sender (payloadOf ms)) 0).toNat = sender ∧
    frameMessages (frameOf sender (payloadOf ms)) = ms

/-- A valid frame gives presence to its sender, and its messages then act one by one as the commands
they stand for, each on the state the one before it left; a REPORT and an unknown kind are skipped
(R171, R172). That all of them act within the command, with no other happening between, is the
model's choice (log 7). -/
def Obligations.ValidFrameRunsItsMessages : Prop :=
  ∀ (s : State) (since : Nat) (bytes : List Byte),
    s.link.state ≠ .offline → 8000 ≤ since → frameSound bytes = true →
    (byteAt bytes 0).toNat ≠ s.own → s.slotOf since = some (byteAt bytes 0).toNat →
    exec (.frameReceived false since bytes) s =
      runCommands ((frameMessages bytes).filterMap (Message.command (byteAt bytes 0).toNat))
        { s with
          peers := s.peers.set (byteAt bytes 0).toNat
            { s.peer (byteAt bytes 0).toNat with presence := .present, miss := 0, heard := true } }

/-- The STATUS body is 49 bytes that carry the owners' values at their offsets in the codes of 13.6, 0
where a field has no meaning, and it is read back as the position, the advertisement and the group
vector (R91, R112, R173, R196, R199, 13.4, 13.6). -/
def Obligations.StatusBodyIsReadBackAsWritten : Prop :=
  ∀ s : State, s.groups.length = 15 → (∀ b, s.barrier = some b → b.group < 256) →
    s.statusBody.length = 49 ∧
    byteAt s.statusBody 0 = (match s.station with
      | .offline => 0 | .idle => 1 | .held => 2 | .armed => 3 | .running => 4 | .stopping => 5
      | .settling => 6 | .faulted => 7) ∧
    (byteAt s.statusBody 1).getLsbD 0 = s.queue.fresh ∧
    (byteAt s.statusBody 1).getLsbD 1 = s.seq.homed ∧
    (byteAt s.statusBody 1).getLsbD 2 = s.seq.paused ∧
    (byteAt s.statusBody 1).getLsbD 3 = s.stack.overflow ∧
    (byteAt s.statusBody 1).getLsbD 4 = decide (s.cfg.encoderMode ≠ .off) ∧
    byteAt s.statusBody 2 = BitVec.ofNat 8 (16 - s.queue.entries.length) ∧
    byteAt s.statusBody 3 = s.queue.expected ∧
    (s.seq.lastFinished = none → byteAt s.statusBody 4 = 0 ∧ byteAt s.statusBody 5 = 0) ∧
    (∀ tag result, s.seq.lastFinished = some (tag, result) → byteAt s.statusBody 4 = tag ∧
      byteAt s.statusBody 5 = (match result with
        | .done => 1 | .aborted => 2 | .halted => 3 | .faulted => 4)) ∧
    (s.seq.active = none → byteAt s.statusBody 6 = 0 ∧ byteAt s.statusBody 7 = 0) ∧
    (∀ a, s.seq.active = some a → byteAt s.statusBody 6 = a.work.tag ∧
      byteAt s.statusBody 7 = (match a.work.kind with
        | .move => 1 | .goto => 2 | .home => 3 | .dwell => 4 | .follow => 5)) ∧
    byteAt s.statusBody 8 = BitVec.ofNat 8 s.stack.residuals.length ∧
    position32 s.statusBody 9 = s.gen.position ∧ position32 s.statusBody 13 = s.encoder.position ∧
    byteAt s.statusBody 17 = (match s.faults.current with
      | none => 0 | some .limitPos => 1 | some .limitNeg => 2 | some .driveFault => 3
      | some .followingError => 4 | some .encoderError => 5 | some .settleTimeout => 6
      | some .homingFailed => 7 | some .followOverrun => 8 | some .followLost => 9
      | some .barrierTimeout => 10 | some .barrierLate => 11 | some .barrierMismatch => 12
      | some .cycleSlip => 13 | some .notHomed => 14 | some .range => 15
      | some .addressConflict => 16) ∧
    byteAt s.statusBody 18 = (match s.queue.refusal.kind with
      | none => 0 | some .segment => 1 | some .flush => 2 | some .stop => 3 | some .resume => 4
      | some .setPosition => 5 | some .halt => 6 | some .release => 7 | some .clearFault => 8
      | some .query => 9 | some .stationReset => 10) ∧
    (s.queue.refusal.kind ≠ some .segment ∨ s.queue.refusal.tag = none →
      byteAt s.statusBody 19 = 0) ∧
    (∀ tag, s.queue.refusal.kind = some .segment → s.queue.refusal.tag = some tag →
      byteAt s.statusBody 19 = tag) ∧
    byteAt s.statusBody 20 = (match s.queue.refusal.reason with
      | none => 0 | some .tagGap => 1 | some .badField => 2 | some .queueFull => 3
      | some .stackFull => 4 | some .armed => 5 | some .notSuspendable => 6 | some .state => 7
      | some .causePresent => 8) ∧
    byteAt s.statusBody 21 = s.queue.refusal.count ∧
    ∃ p, statusOf s.statusBody = some p ∧ p.position = s.gen.position ∧
      p.adv = (match s.barrier with
        | none => ⟨false, false, 0, 0, 0, 0, 0⟩
        | some b => ⟨true, decide (b.phase = .started), BitVec.ofNat 8 b.group, b.number, b.epoch,
            b.since, b.mask⟩) ∧
      p.epochs = s.groups.map (fun g => g.epoch) ∧
      ∀ i, i < 15 → p.haltedMask.getLsbD i = decide ((s.groups.getD i .reset).condition = .halted)

/-- A JOINED station sends one frame at its own slot: its STATUS, then the REPORT of the pending query;
it writes its own Peer Table entry and empties the query, and CLEAR sets the seven counters to 0
after the report has been assembled. In the cycle in which it joined by a pair of marks, and while
it is not JOINED, it sends nothing (R164, R169, R173, R179, R189). A REPORT carries its kind, the cycle
number at its assembly, and the contents 13.5 lays out for its kind (R187 to R189). The fields that
carry no meaning are free values and are left out here (log 16). -/
def Obligations.OwnSlotSendsStatusAndReport : Prop :=
  ∀ s : State,
    (s.link.state = .joined → s.link.slotPasses = false →
      let own : PeerEntry := { s.peer s.own with
        presence := .present, miss := 0, status := statusOf s.statusBody }
      let status := messageBytes 0x10 255 s.statusBody
      (s.link.query = none →
        exec .slotStart s = .next { s with
          link := { s.link with sending := some (frameOf s.own status), query := none }
          peers := s.peers.set s.own own }) ∧
      (∀ q, s.link.query = some q →
        ∃ t, exec .slotStart s = .next t ∧ t.peers = s.peers.set s.own own ∧
          t.link.sending = some (frameOf s.own (status ++
            messageBytes 0x11 (BitVec.ofNat 8 q.requester) (s.reportBody q.kind))) ∧
          t.link.query = none ∧ t.link.listenFailures = s.link.listenFailures ∧
          t.link.cycle = s.link.cycle ∧ t.link.state = .joined ∧ t.gen = s.gen ∧
          t.groups = s.groups ∧ t.faults = s.faults ∧ t.barrier = s.barrier ∧ t.drive = s.drive ∧
          t.encoder = s.encoder ∧ t.stack.residuals = s.stack.residuals ∧
          t.stack.overflow = s.stack.overflow ∧ t.queue.entries = s.queue.entries ∧
          t.queue.expected = s.queue.expected ∧ t.queue.refusal.kind = s.queue.refusal.kind ∧
          t.queue.refusal.tag = s.queue.refusal.tag ∧
          t.queue.refusal.reason = s.queue.refusal.reason ∧
          (q.clear = true → t.queue.refusal.count = 0 ∧ t.seq = { s.seq with chainBreaks := 0 } ∧
            t.stack.overflowCount = 0 ∧ t.link.crcErrors = 0 ∧ t.link.slotViolations = 0 ∧
            t.link.cycleSlips = 0 ∧ t.link.droppedQueries = 0) ∧
          (q.clear = false → t.queue = s.queue ∧ t.seq = s.seq ∧ t.stack = s.stack ∧
            t.link.crcErrors = s.link.crcErrors ∧
            t.link.slotViolations = s.link.slotViolations ∧
            t.link.cycleSlips = s.link.cycleSlips ∧
            t.link.droppedQueries = s.link.droppedQueries))) ∧
    (s.link.state ≠ .joined ∨ s.link.slotPasses = true → exec .slotStart s = .next s) ∧
    (s.sizesOk → s.queue.entries.length ≤ 16 → s.stack.residuals.length ≤ 3 →
      (∀ k : QueryKind, byteAt (s.reportBody k) 0 = (match k with
          | .queue => 1 | .stack => 2 | .groups => 3 | .peers => 4 | .faults => 5 | .counters => 6) ∧
        fieldNat (s.reportBody k) 1 2 = s.link.cycle.toNat) ∧
      (let r := s.reportBody .queue;
        r.length = 5 + 4 * s.queue.entries.length ∧ byteAt r 3 = s.queue.expected ∧
        (byteAt r 4).toNat = s.queue.entries.length ∧
        ∀ i, i < s.queue.entries.length → ∃ e, s.queue.entries[i]? = some e ∧
          byteAt r (5 + 4 * i) = e.tag ∧
          byteAt r (6 + 4 * i) = (match e.body.kind with
            | .move => 1 | .goto => 2 | .home => 3 | .dwell => 4 | .follow => 5) ∧
          byteAt r (7 + 4 * i) = BitVec.ofNat 8 e.group ∧
          (byteAt r (8 + 4 * i)).getLsbD 0 = e.insert ∧
          (byteAt r (8 + 4 * i)).getLsbD 1 = e.chain ∧
          (byteAt r (8 + 4 * i)).getLsbD 2 = e.bound ∧
          ((byteAt r (8 + 4 * i)).getLsbD 3 = true ↔
            i = 0 ∧ s.station = .armed ∧ (s.stack.residuals = [] ∨ e.insert = true)) ∧
          (byteAt r (8 + 4 * i)).toNat < 16) ∧
      (let r := s.reportBody .stack;
        r.length = 5 + 9 * s.stack.residuals.length ∧
        (byteAt r 3).toNat = s.stack.residuals.length ∧
        byteAt r 4 = (if s.stack.overflow = true then 1 else 0) ∧
        ∀ i, i < s.stack.residuals.length → ∃ x, s.stack.residuals[i]? = some x ∧
          byteAt r (5 + 9 * i) = x.tag ∧
          byteAt r (6 + 9 * i) = (match x.remaining with | .move _ => 1 | .goto _ => 2 | .dwell _ => 4) ∧
          byteAt r (7 + 9 * i) = BitVec.ofNat 8 x.group ∧
          (byteAt r (8 + 9 * i)).toNat % 4 =
            (match x.origin with | .preempt => 1 | .pause => 2 | .halt => 3) ∧
          (byteAt r (8 + 9 * i)).getLsbD 2 = x.barrier.isSome ∧
          ((byteAt r (8 + 9 * i)).getLsbD 3 = true ↔ i = 0 ∧ s.station = .armed ∧
            ∀ e, e ∈ s.queue.entries.head? → e.insert = false) ∧
          (byteAt r (8 + 9 * i)).toNat < 16 ∧
          byteAt r (9 + 9 * i) = (match x.barrier with | none => 0 | some b => b.number) ∧
          position32 r (10 + 9 * i) = (match x.remaining with
            | .move n => BitVec.ofInt 32 n | .goto p => p | .dwell n => BitVec.ofNat 32 n)) ∧
      (let r := s.reportBody .groups;
        r.length = 67 ∧
        ∀ i, i < 15 →
          let x := s.group (i + 1)
          (fieldNat r 3 2).testBit i = decide (x.condition = .halted) ∧
          (fieldNat r 5 2).testBit i = x.synchronised ∧
          byteAt r (7 + 4 * i) = x.epoch ∧
          (byteAt r (8 + 4 * i)).toNat % 8 = (match x.cause with
            | .none => 0 | .fault => 1 | .peerLost => 2 | .commanded => 3 | .reset => 4
            | .relayed => 5 | .released => 6) ∧
          (∀ o, x.originator = some o → (byteAt r (8 + 4 * i)).toNat / 8 = o % 32) ∧
          fieldNat r (9 + 4 * i) 2 = x.changedAt.toNat) ∧
      (let r := s.reportBody .peers;
        r.length = 35 ∧
        ∀ a, a < 32 →
          (byteAt r (3 + a)).toNat % 4 =
            (match (s.peer a).presence with | .unknown => 0 | .present => 1 | .lost => 2) ∧
          (byteAt r (3 + a)).toNat / 4 = (s.peer a).miss % 16) ∧
      (let r := s.reportBody .faults;
        r.length = 25 ∧
        (byteAt r 3).toNat = (match s.faults.current with | none => 0 | some k => k.code) ∧
        byteAt r 4 = BitVec.ofNat 8 s.faults.count ∧
        (∀ k : FaultKind, (fieldNat r 5 2).testBit (k.code - 1) = decide (k ∈ s.faults.kinds)) ∧
        (s.faults.first = none → byteAt r 7 = 0 ∧ byteAt r 8 = 0) ∧
        (∀ e, s.faults.first = some e → (byteAt r 7).toNat = e.kind.code ∧
          byteAt r 8 = (if e.tag.isSome = true then 1 else 0) ∧
          (∀ tag, e.tag = some tag → byteAt r 9 = tag) ∧
          fieldNat r 10 2 = e.cycle.toNat ∧ position32 r 12 = e.position) ∧
        (s.faults.last = none → byteAt r 16 = 0 ∧ byteAt r 17 = 0) ∧
        (∀ e, s.faults.last = some e → (byteAt r 16).toNat = e.kind.code ∧
          byteAt r 17 = (if e.tag.isSome = true then 1 else 0) ∧
          (∀ tag, e.tag = some tag → byteAt r 18 = tag) ∧
          fieldNat r 19 2 = e.cycle.toNat ∧ position32 r 21 = e.position)) ∧
      (s.countersOk →
        let r := s.reportBody .counters
        r.length = 11 ∧ byteAt r 3 = s.queue.refusal.count ∧
        (byteAt r 4).toNat = s.seq.chainBreaks ∧ (byteAt r 5).toNat = s.stack.overflowCount ∧
        fieldNat r 6 2 = s.link.crcErrors ∧ (byteAt r 8).toNat = s.link.slotViolations ∧
        (byteAt r 9).toNat = s.link.cycleSlips ∧ (byteAt r 10).toNat = s.link.droppedQueries))

/-- Listening back: a frame heard as sent sets the failure count to 0, any other outcome raises it, and
the third failure makes the link SILENT with ADDRESS_CONFLICT (R174, R194). A comparison while no own
frame is being sent changes nothing (log 3). -/
def Obligations.ListenBackCountsAndSilences : Prop :=
  ∀ (s : State) (sent : List Byte) (heard : Option (List Byte)),
    (s.link.state = .joined → s.link.sending = some sent →
      (heard = some sent → exec (.listenBack heard) s =
        .next { s with link := { s.link with sending := none, listenFailures := 0 } }) ∧
      (heard ≠ some sent → s.link.listenFailures < 2 → exec (.listenBack heard) s =
        .next { s with link := { s.link with
          sending := none, listenFailures := s.link.listenFailures + 1 } }) ∧
      (heard ≠ some sent → s.link.listenFailures = 2 → s.station ≠ .offline →
        ∃ t, exec (.listenBack heard) s = .next t ∧
          t.link = { s.link with
            sending := none, listenFailures := 3, state := .silent, query := none
            markTimer := none } ∧
          t.faults.current = some .addressConflict ∧ t.faultOutput = true ∧
          t.drive = s.drive ∧ t.seq.homed = s.seq.homed ∧ t.gen.position = s.gen.position ∧
          (s.station = .idle → t.station = .faulted))) ∧
    (s.link.state ≠ .joined ∨ s.link.sending = none → exec (.listenBack heard) s = .next s)

/-- SILENT lasts until POWER_ON or PIN_RESET, and a SILENT station sends no frame and no mark (R164). -/
def Obligations.SilentStationStaysSilent : Prop :=
  ∀ (c : Instr) (s t : State), s.link.state = .silent → s.loader.load = .loaded →
    c ≠ .powerOn → c ≠ .pinReset → exec c s = .next t →
    t.link.state = .silent ∧ t.link.sending = s.link.sending ∧ t.link.markSent = s.link.markSent

/-! ### Messages -/

/-- A message that is not for this station, or that comes while the link is not JOINED, is not taken
(R2, R164, R171). -/
def Obligations.MessagesForOthersAreNotTaken : Prop :=
  ∀ (s : State) (sender : Nat) (dest : Byte) (body : List Byte), ¬s.addressed dest →
    exec (.segment sender dest body) s = .next s ∧ exec (.flush sender dest body) s = .next s ∧
    exec (.stop sender dest body) s = .next s ∧ exec (.resume sender dest body) s = .next s ∧
    exec (.setPosition sender dest body) s = .next s ∧ exec (.halt sender dest body) s = .next s ∧
    exec (.release sender dest body) s = .next s ∧
    exec (.clearFault sender dest body) s = .next s ∧
    exec (.query sender dest body) s = .next s ∧ exec (.stationReset sender dest body) s = .next s

/-- A message of a kind with one fixed length, STATUS apart, that comes with another length is refused
BAD_FIELD with tag none, and so is a SEGMENT shorter than its fixed part; nothing changes but the
last-refusal record (R2, R12, R16, R197). A longer SEGMENT of a wrong length is in
`SegmentIsAccepted`. -/
def Obligations.WrongLengthIsRefusedBadField : Prop :=
  ∀ (s : State) (sender : Nat) (dest : Byte) (body : List Byte), s.addressed dest →
    (body.length < 4 → exec (.segment sender dest body) s =
      .next { s with queue := s.queue.refused .segment none .badField }) ∧
    (body.length ≠ 2 → exec (.flush sender dest body) s =
      .next { s with queue := s.queue.refused .flush none .badField } ∧
      exec (.release sender dest body) s =
        .next { s with queue := s.queue.refused .release none .badField }) ∧
    (body.length ≠ 1 → exec (.stop sender dest body) s =
      .next { s with queue := s.queue.refused .stop none .badField } ∧
      exec (.halt sender dest body) s =
        .next { s with queue := s.queue.refused .halt none .badField } ∧
      exec (.query sender dest body) s =
        .next { s with queue := s.queue.refused .query none .badField }) ∧
    (body.length ≠ 5 → exec (.setPosition sender dest body) s =
      .next { s with queue := s.queue.refused .setPosition none .badField }) ∧
    (body.length ≠ 0 → exec (.resume sender dest body) s =
      .next { s with queue := s.queue.refused .resume none .badField } ∧
      exec (.clearFault sender dest body) s =
        .next { s with queue := s.queue.refused .clearFault none .badField } ∧
      exec (.stationReset sender dest body) s =
        .next { s with queue := s.queue.refused .stationReset none .badField })

/-- A SEGMENT is classified by the distance from its tag to the expected tag: too short, current,
duplicate or gap (R12). -/
def Obligations.SegmentTagIsClassified : Prop :=
  ∀ (s : State) (sender : Nat) (dest : Byte) (body : List Byte), s.addressed dest →
    (body.length < 4 → exec (.segment sender dest body) s =
      .next { s with queue := s.queue.refused .segment none .badField }) ∧
    (4 ≤ body.length →
      let d := (s.queue.expected - byteAt body 0).toNat
      (d = 0 → exec (.segment sender dest body) s = .next (s.takeCurrent body)) ∧
      (1 ≤ d → d ≤ 128 → exec (.segment sender dest body) s = .next s) ∧
      (129 ≤ d → exec (.segment sender dest body) s =
        .next { s with queue := s.queue.refused .segment (some (byteAt body 0)) .tagGap }))

/-- An ordinary entry is placed at the tail, and an INSERT directly after the run of INSERT entries at
the head (R13). -/
def Obligations.EntriesArePlacedByTheInsertFlag : Prop :=
  ∀ (e : QueueEntry) (entries : List QueueEntry),
    (e.insert = false → placeEntry e entries = entries ++ [e]) ∧
    (e.insert = true → placeEntry e entries =
      entries.takeWhile (fun x => x.insert) ++ e :: entries.dropWhile (fun x => x.insert))

/-- Which SEGMENT bodies are well made, and the entry they give: the fifteen checks of R7 on the bytes as
13.3 lays them out, the profile completed by the default. A current body of at least 4 bytes that is
not well made is refused BAD_FIELD with its tag (R3 to R7, R14, R16, R197). A current, well-made SEGMENT
that finds room is accepted: it is placed, the expected tag advances by one and FRESH is cleared; an
idle station with no other work starts an accepted DWELL at once (R15, R28 to R30, R33, R38). -/
def Obligations.SegmentIsAccepted : Prop :=
  (∀ (own span : Nat) (default : Profile) (body : List Byte), own < 32 → 4 ≤ body.length →
    let kind := (byteAt body 1).toNat
    let group := (byteAt body 3).toNat
    let insert := (byteAt body 2).getLsbD 0
    let chain := (byteAt body 2).getLsbD 1
    let profile := (byteAt body 2).getLsbD 2
    let barrier := (byteAt body 2).getLsbD 3
    let bounded := (byteAt body 2).getLsbD 4
    let b := 4 + (if profile = true then 16 else 0)
    let o := b + (if barrier = true then 7 else 0)
    let rates : Profile := ⟨fieldNat body 4 4, fieldNat body 8 4, fieldNat body 12 4, fieldNat body 16 4⟩
    let mask := BitVec.ofNat 32 (fieldNat body (b + 1) 4)
    let e := segmentOf own span default body
    (e.isSome = true ↔
      1 ≤ kind ∧ kind ≤ 5 ∧ group ≤ 15 ∧ (chain = true → kind ≤ 2) ∧
      (barrier = true → group ≠ 0 ∧ mask.getLsbD own = true ∧
        ∀ k, k < 32 → mask.getLsbD k = true → k < span) ∧
      (profile = true → kind ≠ 4 ∧ 1 ≤ rates.fs ∧ rates.fs ≤ rates.ft ∧ rates.ft ≤ 1000000 ∧
        1 ≤ rates.a ∧ rates.a ≤ 16777215 ∧ 1 ≤ rates.d ∧ rates.d ≤ 16777215) ∧
      (kind = 1 → body.length = o + 4 ∧ position32 body o ≠ 0 ∧
        (position32 body o).toInt.natAbs ≤ 16777215) ∧
      (kind = 2 → body.length = o + 4) ∧
      (kind = 3 → if bounded = true
        then body.length = o + 9 ∧ 1 ≤ fieldNat body (o + 5) 4 ∧ fieldNat body (o + 5) 4 ≤ 16777215
        else body.length = o + 5) ∧
      (kind = 4 → body.length = o + 2 ∧ fieldNat body o 2 ≠ 0) ∧
      (kind = 5 → (byteAt body o).toNat ≠ own ∧ (byteAt body o).toNat < span ∧
        byteAt body (o + 1) ≠ 0 ∧ byteAt body (o + 2) ≠ 0 ∧
        if bounded = true
        then body.length = o + 7 ∧ 1 ≤ fieldNat body (o + 3) 4 ∧ fieldNat body (o + 3) 4 ≤ 16777215
        else body.length = o + 3)) ∧
    (∀ x, e = some x →
      x.tag = byteAt body 0 ∧ x.insert = insert ∧ x.chain = chain ∧ x.group = group ∧
      x.bound = false ∧ x.profile = (if profile = true then rates else default) ∧
      x.barrier = (if barrier = true
        then some ⟨byteAt body b, mask, fieldNat body (b + 5) 2⟩ else none) ∧
      x.body = (match kind with
        | 1 => .move (position32 body o).toInt
        | 2 => .goto (position32 body o)
        | 3 => .home (if (byteAt body o).getLsbD 0 = true then .neg else .pos)
            ((byteAt body o).toNat / 16) (position32 body (o + 1))
            (if bounded = true then some (fieldNat body (o + 5) 4) else none)
        | 4 => .dwell (fieldNat body o 2)
        | _ => .follow (byteAt body o).toNat (byteAt body (o + 1)).toInt (byteAt body (o + 2)).toNat
            (if bounded = true then some (fieldNat body (o + 3) 4) else none)))) ∧
  (∀ (s : State) (sender : Nat) (dest : Byte) (body : List Byte),
    s.addressed dest → 4 ≤ body.length → byteAt body 0 = s.queue.expected →
    segmentOf s.own s.cfg.span s.cfg.defaultProfile body = none →
    exec (.segment sender dest body) s =
      .next { s with queue := s.queue.refused .segment (some (byteAt body 0)) .badField }) ∧
  ∀ (s : State) (sender : Nat) (dest : Byte) (body : List Byte) (e : QueueEntry),
    s.addressed dest → 4 ≤ body.length → byteAt body 0 = s.queue.expected →
    segmentOf s.own s.cfg.span s.cfg.defaultProfile body = some e → s.queue.entries.length < 16 →
    (e.insert = false ∨ s.insertRefusal = none →
      ∃ t, exec (.segment sender dest body) s = .next t ∧
        t.queue.expected = s.queue.expected + 1 ∧ t.queue.fresh = false ∧
        t.queue.refusal = s.queue.refusal ∧ t.link = s.link ∧ t.peers = s.peers ∧
        t.loader = s.loader) ∧
    ((e.insert = false ∧ s.busy) ∨ s.station = .stopping ∨ s.station = .settling ∨
        s.station = .faulted →
      exec (.segment sender dest body) s = .next { s with
        queue := { s.queue with
          entries := placeEntry e s.queue.entries
          expected := s.queue.expected + 1, fresh := false } }) ∧
    (∀ n, s.station = .idle → s.noWork → s.seq.paused = false → s.drive.clear = .none →
      e.body = .dwell n → e.barrier = none → s.groupHalted e.group = false →
      exec (.segment sender dest body) s = .next { s with
        queue := { s.queue with expected := s.queue.expected + 1, fresh := false }
        seq := { s.seq with
          station := .running
          active := some ⟨.segment e, none, false, false, none,
            some (s.link.cycle + BitVec.ofNat 16 n)⟩ } })

/-- A current, well-made SEGMENT is refused QUEUE_FULL by a full queue; an INSERT is refused ARMED,
NOT_SUSPENDABLE or STACK_FULL by the station, and otherwise preempts a running MOVE or GOTO, which
brakes with one stack place reserved (R14, R77, R78, R44, R46). -/
def Obligations.InsertIsRefusedOrPreempts : Prop :=
  ∀ (s : State) (sender : Nat) (dest : Byte) (body : List Byte) (e : QueueEntry),
    s.addressed dest → 4 ≤ body.length → byteAt body 0 = s.queue.expected →
    segmentOf s.own s.cfg.span s.cfg.defaultProfile body = some e →
    (16 ≤ s.queue.entries.length → exec (.segment sender dest body) s =
      .next { s with queue := s.queue.refused .segment (some e.tag) .queueFull }) ∧
    (s.queue.entries.length < 16 → e.insert = true →
      (s.station = .armed → exec (.segment sender dest body) s =
        .next { s with queue := s.queue.refused .segment (some e.tag) .armed }) ∧
      (∀ a, s.station = .running → s.seq.active = some a →
        ((a.work.kind = .home ∨ a.work.kind = .follow) → exec (.segment sender dest body) s =
          .next { s with queue := s.queue.refused .segment (some e.tag) .notSuspendable }) ∧
        ((a.work.kind = .move ∨ a.work.kind = .goto ∨ a.work.kind = .dwell) →
          3 ≤ s.stack.residuals.length → exec (.segment sender dest body) s =
            .next { s with queue := s.queue.refused .segment (some e.tag) .stackFull }) ∧
        (∀ r, (a.work.kind = .move ∨ a.work.kind = .goto) → s.stack.residuals.length < 3 →
          s.gen.run = some r → s.gen.phase ≠ .standstill → s.gen.phase ≠ .braking →
          r.profile.fs < (if s.gen.phase = .flat then r.baseRate else s.gen.rate) →
          s.follow.phase = .none →
          exec (.segment sender dest body) s = .next { s with
            queue := SegQueue.unbound { s.queue with
              entries := placeEntry e s.queue.entries
              expected := s.queue.expected + 1, fresh := false }
            seq := { s.seq with
              station := .stopping
              active := some { a with
                disposition := some .preempt, faultEnded := false, reserved := true,
                bound := none } }
            gen := s.gen.brake })))

/-- FLUSH removes what its scope names but for BOUND entries and the armed entry, which may be the queue
head or the stack top, and ALL and STACK clear OVERFLOW; the rest of the station is unchanged. A FLUSH of
an unknown scope, or of a group above 15, is refused. What is left is dispatched: a station whose last
work was held becomes IDLE (R11, R19 to R22, R28, R29). -/
def Obligations.FlushRemovesItsScope : Prop :=
  ∀ (s : State) (sender : Nat) (dest g : Byte), s.addressed dest →
    let inGroup (e : QueueEntry) : Bool := e.bound || decide (e.group ≠ g.toNat)
    let others (r : Residual) : Bool := decide (r.group ≠ g.toNat)
    (∀ scope : Byte, scope ≠ 1 → scope ≠ 2 → scope ≠ 3 → exec (.flush sender dest [scope, g]) s =
      .next { s with queue := s.queue.refused .flush none .badField }) ∧
    (15 < g.toNat → exec (.flush sender dest [2, g]) s =
      .next { s with queue := s.queue.refused .flush none .badField }) ∧
    (s.busy → s.station ≠ .armed →
      exec (.flush sender dest [1, g]) s = .next { s with
        queue := { s.queue with entries := s.queue.entries.filter (fun e => e.bound) }
        stack := { s.stack with residuals := [], overflow := false } } ∧
      (g.toNat ≤ 15 → exec (.flush sender dest [2, g]) s = .next { s with
        queue := { s.queue with entries := s.queue.entries.filter inGroup }
        stack := { s.stack with residuals := s.stack.residuals.filter others } }) ∧
      exec (.flush sender dest [3, g]) s = .next { s with
        stack := { s.stack with residuals := [], overflow := false } }) ∧
    (s.station = .idle ∨ s.station = .held → ¬s.noWork → s.chainInv →
      exec (.flush sender dest [1, g]) s = .next { s with
        queue := { s.queue with entries := [] }
        stack := { s.stack with residuals := [], overflow := false }
        seq := { s.seq with station := .idle } }) ∧
    (∀ e es, s.station = .armed → s.queue.entries = e :: es →
      (s.stack.residuals = [] ∨ e.insert = true) →
      exec (.flush sender dest [1, g]) s = .next { s with
        queue := { s.queue with entries := e :: es.filter (fun e => e.bound) }
        stack := { s.stack with residuals := [], overflow := false } } ∧
      (g.toNat ≤ 15 → exec (.flush sender dest [2, g]) s = .next { s with
        queue := { s.queue with entries := e :: es.filter inGroup }
        stack := { s.stack with residuals := s.stack.residuals.filter others } }) ∧
      exec (.flush sender dest [3, g]) s = .next { s with
        stack := { s.stack with residuals := [], overflow := false } }) ∧
    (∀ r rs, s.station = .armed → s.stack.residuals = r :: rs →
      (∀ e ∈ s.queue.entries, e.insert = false) →
      exec (.flush sender dest [1, g]) s = .next { s with
        queue := { s.queue with entries := s.queue.entries.filter (fun e => e.bound) }
        stack := { s.stack with residuals := [r], overflow := false } } ∧
      (g.toNat ≤ 15 → exec (.flush sender dest [2, g]) s = .next { s with
        queue := { s.queue with entries := s.queue.entries.filter inGroup }
        stack := { s.stack with residuals := r :: rs.filter others } }) ∧
      exec (.flush sender dest [3, g]) s = .next { s with
        stack := { s.stack with residuals := [r], overflow := false } })

/-- STOP by the station state, but for the stop of a running record, and the pause latch with CONTINUE. A
PAUSE in IDLE or HELD sets the latch, and a candidate that is no INSERT then leaves the station IDLE; an
ABORT-IMMEDIATE while STOPPING ends the record at once by its disposition, a PAUSE, HALT or PREEMPT stop
still leaving its residual (R28, R30, R45, R47, R48, R50, R75, R80). -/
def Obligations.StopAndContinueByStationState : Prop :=
  (∀ (s : State) (sender : Nat) (dest m : Byte), s.addressed dest →
    (3 < m.toNat ∨ m = 0 → exec (.stop sender dest [m]) s =
      .next { s with queue := s.queue.refused .stop none .badField }) ∧
    (m = 1 ∨ m = 2 ∨ m = 3 → s.station = .faulted → exec (.stop sender dest [m]) s =
      .next { s with queue := s.queue.refused .stop none .state }) ∧
    (m = 1 ∨ m = 2 ∨ m = 3 → s.station = .armed → exec (.stop sender dest [m]) s =
      .next { s with queue := s.queue.refused .stop none .armed }) ∧
    (m = 1 ∨ m = 2 → s.station = .idle ∨ s.station = .held ∨ s.station = .settling →
      exec (.stop sender dest [m]) s =
        .next { s with queue := s.queue.refused .stop none .state }) ∧
    (s.station = .stopping → exec (.stop sender dest [1]) s = .next s) ∧
    (s.station = .stopping ∨ s.station = .settling → exec (.stop sender dest [3]) s =
      .next { s with seq := { s.seq with paused := true } }) ∧
    (s.station = .idle ∨ s.station = .held →
      (s.seq.paused = true → exec (.stop sender dest [3]) s = .next s) ∧
      (s.seq.paused = false → (∀ e ∈ s.queue.entries, e.insert = false) →
        exec (.stop sender dest [3]) s =
          .next { s with seq := { s.seq with paused := true, station := .idle } })) ∧
    (s.seq.paused = false → exec (.resume sender dest []) s = .next s) ∧
    (s.seq.paused = true → s.busy ∨ (s.station = .idle ∧ s.noWork) →
      exec (.resume sender dest []) s = .next { s with seq := { s.seq with paused := false } })) ∧
  (∀ (s : State) (sender : Nat) (dest : Byte) (a : Active), s.addressed dest →
    s.station = .stopping → s.seq.active = some a →
    let stopped := exec (.stop sender dest [2]) s
    let still : State := { s with
      gen := s.gen.ceased, homing := .reset, follow := .reset
      encoder := { s.encoder with settle := none }, barrier := none }
    (a.faultEnded = true →
      stopped = .next { still with seq := s.seq.ended .faulted a.work.tag .faulted }) ∧
    (a.faultEnded = false →
      (a.disposition = some .abort → s.noWork →
        stopped = .next { still with seq := s.seq.ended .idle a.work.tag .aborted }) ∧
      (∀ r n, a.work.kind = .move → s.gen.run = some r → r.count = some n →
        let left : Int := match s.gen.dir with
          | .pos => ((n - r.emitted : Nat) : Int)
          | .neg => -((n - r.emitted : Nat) : Int)
        let rest (origin : Origin) : Residual :=
          ⟨a.work.tag, a.work.group, a.work.barrier, a.work.profile, origin, .move left⟩
        (a.disposition = some .pause → s.seq.paused = true →
          (∀ e ∈ s.queue.entries, e.insert = false) → s.stack.residuals.length < 3 →
          stopped = .next { still with
            stack := { s.stack with residuals := rest .pause :: s.stack.residuals }
            seq := { s.seq with station := .idle, active := none } }) ∧
        (a.disposition = some .halt → s.seq.paused = false → s.groupHalted a.work.group = true →
          (∀ e ∈ s.queue.entries, e.insert = false) → s.stack.residuals.length < 3 →
          stopped = .next { still with
            stack := { s.stack with residuals := rest .halt :: s.stack.residuals }
            seq := { s.seq with station := .held, active := none } }) ∧
        (∀ e es c, a.disposition = some .preempt → s.queue.entries = e :: es → e.insert = true →
          e.body = .dwell c → e.barrier = none → s.groupHalted e.group = false →
          s.drive.clear = .none → stopped = .next { still with
            stack := { s.stack with residuals := rest .preempt :: s.stack.residuals }
            queue := { s.queue with entries := es }
            seq := { s.seq with
              station := .running
              active := some ⟨.segment e, none, false, false, none,
                some (s.link.cycle + BitVec.ofNat 16 c)⟩ } }))))

/-- A STOP of a running MOVE, GOTO, HOME or FOLLOW. ABORT-DECEL and PAUSE brake it: with disposition
ABORT, and under PAUSE with the pause latch set and disposition PAUSE, or ABORT for a HOME or a FOLLOW,
which leaves no residual. Braking goes from the current rate, or from the flat rate of a flat run (log
34), toward the start rate, one step ahead of its first rate; a run that brakes already, as the phase of
a homing may, goes on from its base. At standstill, or at a rate at or below the start rate, as the flat
run of APPROACH or INDEX and a FOLLOW between payments or in a turn, the record ends at once: ABORTED,
or, for a PAUSE of a MOVE, as a residual of the steps left. ABORT-IMMEDIATE ends it ABORTED at once,
without a DRV-CLR pulse. The stop turns a tracking Follow Unit to CEASED and abandons its turn (R44 to
R48, R66, R67, R71, R75, R80, R137, R148, R153). -/
def Obligations.StopBrakesOrEndsARunningMove : Prop :=
  ∀ (s : State) (sender : Nat) (dest : Byte) (a : Active), s.addressed dest →
    s.station = .running → s.seq.active = some a → a.work.kind ≠ .dwell →
    let onPause : Disposition :=
      if a.work.kind = .home ∨ a.work.kind = .follow then .abort else .pause
    let stopping (disposition : Disposition) (paused : Bool) (gen : Gen) : State := { s with
      queue := s.queue.unbound
      seq := { s.seq with
        station := .stopping, paused := paused
        active := some { a with
          disposition := some disposition, faultEnded := false, reserved := false, bound := none } }
      gen := gen
      follow := if s.follow.phase = .tracking
        then { s.follow with phase := .ceased, turning := none } else s.follow }
    let still : State := { s with
      gen := s.gen.ceased, homing := .reset, follow := .reset
      encoder := { s.encoder with settle := none }, barrier := none }
    let ended (paused : Bool) : State := { still with
      seq := { s.seq.ended .idle a.work.tag .aborted with paused := paused } }
    (∀ r, s.gen.run = some r →
      let rate := if s.gen.phase = .flat then r.baseRate else s.gen.rate
      let braking : Gen := { s.gen with
        phase := .braking
        run := some { r with
          endRate := r.profile.fs, baseRate := rate, baseSteps := 0, commitWatch := false
          nextRate := max r.profile.fs (Nat.sqrt (rate * rate - 2 * r.profile.d)) } }
      (s.gen.phase ≠ .standstill → s.gen.phase ≠ .braking → r.profile.fs < rate →
        s.gen.brake = braking ∧
        exec (.stop sender dest [1]) s = .next (stopping .abort s.seq.paused braking) ∧
        exec (.stop sender dest [3]) s = .next (stopping onPause true braking)) ∧
      (s.gen.phase = .braking →
        exec (.stop sender dest [1]) s = .next (stopping .abort s.seq.paused s.gen) ∧
        exec (.stop sender dest [3]) s = .next (stopping onPause true s.gen)) ∧
      (s.gen.phase ≠ .braking → rate ≤ r.profile.fs →
        (s.noWork → exec (.stop sender dest [1]) s = .next (ended s.seq.paused) ∧
          (onPause = .abort → exec (.stop sender dest [3]) s = .next (ended true))) ∧
        (∀ n, a.work.kind = .move → r.count = some n → s.queue.entries = [] →
          s.stack.residuals.length < 3 →
          let left : Int := match s.gen.dir with
            | .pos => ((n - r.emitted : Nat) : Int)
            | .neg => -((n - r.emitted : Nat) : Int)
          exec (.stop sender dest [3]) s = .next { still with
            stack := { s.stack with residuals :=
              ⟨a.work.tag, a.work.group, a.work.barrier, a.work.profile, .pause, .move left⟩ ::
                s.stack.residuals }
            seq := { s.seq with station := .idle, paused := true, active := none } }))) ∧
    (s.gen.phase = .standstill → s.noWork →
      exec (.stop sender dest [1]) s = .next (ended s.seq.paused) ∧
      (onPause = .abort → exec (.stop sender dest [3]) s = .next (ended true))) ∧
    (s.noWork → exec (.stop sender dest [2]) s = .next (ended s.seq.paused))

/-- SET_POSITION is refused while an active record exists, and otherwise writes both positions, clears
the edge remainder and sets HOMED by its option, changing nothing else (R51). -/
def Obligations.SetPositionWritesBothPositions : Prop :=
  ∀ (s : State) (sender : Nat) (dest : Byte) (body : List Byte), s.addressed dest →
    (body.length ≠ 5 → exec (.setPosition sender dest body) s =
      .next { s with queue := s.queue.refused .setPosition none .badField }) ∧
    (body.length = 5 →
      (s.station = .running ∨ s.station = .stopping ∨ s.station = .settling →
        exec (.setPosition sender dest body) s =
          .next { s with queue := s.queue.refused .setPosition none .state }) ∧
      (s.station = .idle ∨ s.station = .held ∨ s.station = .armed ∨ s.station = .faulted →
        ∃ t, exec (.setPosition sender dest body) s = .next t ∧
          t = { s with
            gen := { s.gen with position := position32 body 0 }
            encoder := { s.encoder with position := position32 body 0, remainder := 0 }
            seq := { s.seq with homed := s.seq.homed || (byteAt body 4).getLsbD 0 } } ∧
          t.followingError = 0))

/-! ### Group halts -/

/-- HALT raises a halt of its group with cause COMMANDED and the sender as originator, from CLEAR only;
an ARMED station of that group becomes HELD, and a moving record of that group brakes with
disposition HALT (R103, R114, R117, R123). -/
def Obligations.HaltRaisesTheGroup : Prop :=
  ∀ (s : State) (sender : Nat) (dest g : Byte), s.addressed dest → s.groups.length = 15 →
    let entry : GroupEntry :=
      ⟨(s.group g.toNat).epoch + 1, .halted, true, .commanded, some sender, s.link.cycle⟩
    (g = 0 ∨ 15 < g.toNat → exec (.halt sender dest [g]) s =
      .next { s with queue := s.queue.refused .halt none .badField }) ∧
    (∀ body : List Byte, body.length ≠ 1 → exec (.halt sender dest body) s =
      .next { s with queue := s.queue.refused .halt none .badField }) ∧
    (1 ≤ g.toNat → g.toNat ≤ 15 →
      ((s.group g.toNat).condition = .halted → exec (.halt sender dest [g]) s = .next s) ∧
      ((s.group g.toNat).condition = .clear →
        (∃ t, exec (.halt sender dest [g]) s = .next t ∧ t.group g.toNat = entry) ∧
        (s.station = .stopping ∨ s.station = .settling ∨ s.station = .faulted ∨
            (s.station = .running ∧ ∀ a, s.seq.active = some a → a.work.group ≠ g.toNat) →
          exec (.halt sender dest [g]) s =
            .next { s with groups := s.groups.set (g.toNat - 1) entry }) ∧
        (∀ b, s.station = .armed → s.barrier = some b → b.group = g.toNat →
          exec (.halt sender dest [g]) s = .next { s with
            groups := s.groups.set (g.toNat - 1) entry
            barrier := none
            seq := { s.seq with station := .held } }) ∧
        (∀ a r, s.station = .running → s.seq.active = some a → a.work.group = g.toNat →
          a.work.kind ≠ .dwell → s.follow.phase = .none →
          s.gen.run = some r → s.gen.phase ≠ .standstill → s.gen.phase ≠ .braking →
          r.profile.fs < (if s.gen.phase = .flat then r.baseRate else s.gen.rate) →
          exec (.halt sender dest [g]) s = .next { s with
            groups := s.groups.set (g.toNat - 1) entry
            queue := s.queue.unbound
            seq := { s.seq with
              station := .stopping
              active := some { a with
                disposition := some .halt, faultEnded := false, reserved := false,
                bound := none } }
            gen := s.gen.brake })))

/-- RELEASE moves an entry that is unsynchronised, or that stands before the named CLEAR state, to that
state with cause RELEASED, and is ignored otherwise; a candidate that the halt held then starts. A
station ARMED for another group is not affected; one ARMED for the group re-arms in place at the new
epoch, and its members are read anew (R105, R110, R121, R124). -/
def Obligations.ReleaseClearsTheNamedEpoch : Prop :=
  ∀ (s : State) (sender : Nat) (dest g e : Byte), s.addressed dest → s.groups.length = 15 →
    let x := s.group g.toNat
    let entry : GroupEntry := ⟨e, .clear, true, .released, some sender, s.link.cycle⟩
    let d := (e - x.epoch).toNat
    let takes := x.synchronised = false ∨ (d = 0 ∧ x.condition = .halted) ∨ (1 ≤ d ∧ d ≤ 127)
    (g = 0 ∨ 15 < g.toNat → exec (.release sender dest [g, e]) s =
      .next { s with queue := s.queue.refused .release none .badField }) ∧
    (1 ≤ g.toNat → g.toNat ≤ 15 →
      (¬takes → exec (.release sender dest [g, e]) s = .next s) ∧
      (takes → s.busy → s.station ≠ .armed → exec (.release sender dest [g, e]) s =
        .next { s with groups := s.groups.set (g.toNat - 1) entry }) ∧
      (∀ q qs n, takes → x.condition = .halted → s.station = .held → s.seq.paused = false →
        s.drive.clear = .none → s.stack.residuals = [] → s.queue.entries = q :: qs →
        q.body = .dwell n → q.barrier = none → q.group = g.toNat →
        exec (.release sender dest [g, e]) s = .next { s with
          groups := s.groups.set (g.toNat - 1) entry
          queue := { s.queue with entries := qs }
          seq := { s.seq with
            station := .running
            active := some ⟨.segment q, none, false, false, none,
              some (s.link.cycle + BitVec.ofNat 16 n)⟩ } }) ∧
      (∀ b, takes → s.station = .armed → s.barrier = some b → b.phase = .armed →
        let told : State := { s with groups := s.groups.set (g.toNat - 1) entry }
        let again : BarrierRec := { b with
          epoch := e, since := s.link.cycle, start := none, waitCount := 0
          confirmed := b.mask &&& ~~~(1#32 <<< s.own) }
        (b.group ≠ g.toNat ∨ b.epoch = e → exec (.release sender dest [g, e]) s = .next told) ∧
        (b.group = g.toNat → b.epoch ≠ e → b.epoch = x.epoch → s.own < 32 →
          (b.mask = 1#32 <<< s.own → 0 < s.cfg.lead →
            exec (.release sender dest [g, e]) s = .next { told with
              barrier := some { again with
                start := some (s.link.cycle + BitVec.ofNat 16 s.cfg.lead) } }) ∧
          ((∃ m, m < 32 ∧ m ≠ s.own ∧ b.mask.getLsbD m = true) →
            (∀ m, m < 32 → m ≠ s.own → b.mask.getLsbD m = true →
              (s.peer m).presence = .unknown) →
            exec (.release sender dest [g, e]) s =
              .next { told with barrier := some again }))))

/-- A STATUS of a peer is written into its entry, and each group of its vector is compared with the
table: an unsynchronised entry takes the heard state, a synchronised one adopts a later state, with
cause RELAYED. A STATUS of the own address or of a wrong length writes nothing. The changed groups act on
the station: a RUNNING record of a group that becomes HALTED brakes under HALT, an ARMED station of it
becomes HELD, one of a group whose epoch has advanced re-arms in place, an IDLE station whose candidate is
of it becomes HELD, and a HELD candidate of a group that becomes CLEAR starts (R103, R105, R110, R111,
R119, R123, R124, R171, R177). -/
def Obligations.StatusIsWrittenAndItsVectorAdopted : Prop :=
  ∀ (s : State) (sender : Nat) (dest : Byte) (body : List Byte),
    let taken := exec (.status sender dest body) s
    (s.link.state = .offline ∨ body.length ≠ 49 ∨ sender = s.own → taken = .next s) ∧
    (∀ p, s.sizesOk → s.link.state ≠ .offline → sender ≠ s.own → statusOf body = some p →
      let heard : State := { s with
        peers := s.peers.set sender { s.peer sender with status := some p }
        groups := s.groups.mapIdx (fun i x =>
          let e := p.epochs.getD i 0
          let c : Condition := if p.haltedMask.getLsbD i = true then .halted else .clear
          let d := (e - x.epoch).toNat
          if x.synchronised = false ∨ (d = 0 ∧ c = .clear ∧ x.condition = .halted) ∨
              (1 ≤ d ∧ d ≤ 127) then
            ⟨e, c, true, .relayed, some sender, s.link.cycle⟩
          else x) }
      let unread := ∀ b, s.barrier = some b → b.phase = .armed → b.mask.getLsbD sender = false
      let untracked := s.follow.phase = .none ∨ s.follow.leader ≠ sender
      let begins (e : QueueEntry) (n : Nat) : Active :=
        ⟨.segment e, none, false, false, none, some (s.link.cycle + BitVec.ofNat 16 n)⟩
      (s.station = .offline ∨ s.station = .faulted ∨ s.station = .stopping ∨
          s.station = .settling → unread → taken = .next heard) ∧
      (∀ a, s.station = .running → s.seq.active = some a → unread → untracked →
        (heard.groupHalted a.work.group = false → taken = .next heard) ∧
        (∀ r, s.groupHalted a.work.group = false → heard.groupHalted a.work.group = true →
          a.work.kind ≠ .dwell → s.follow.phase = .none → s.gen.run = some r →
          s.gen.phase ≠ .standstill → s.gen.phase ≠ .braking →
          r.profile.fs < (if s.gen.phase = .flat then r.baseRate else s.gen.rate) →
          taken = .next { heard with
            queue := s.queue.unbound
            seq := { s.seq with
              station := .stopping
              active := some { a with
                disposition := some .halt, faultEnded := false, reserved := false,
                bound := none } }
            gen := s.gen.brake })) ∧
      (∀ b, s.station = .armed → s.barrier = some b → b.phase = .armed → s.armedOk = true →
        unread →
        let x := heard.group b.group
        let again : BarrierRec := { b with
          epoch := x.epoch, since := s.link.cycle, start := none, waitCount := 0
          confirmed := b.mask &&& ~~~(1#32 <<< s.own) }
        (heard.groupHalted b.group = false → x.epoch = b.epoch → taken = .next heard) ∧
        (s.groupHalted b.group = false → heard.groupHalted b.group = true → s.seq.paused = false →
          taken = .next { heard with
            barrier := none, seq := { s.seq with station := .held } }) ∧
        (heard.groupHalted b.group = false → x.epoch ≠ b.epoch → (s.group b.group).epoch = b.epoch →
          1 ≤ b.group → s.own < 32 →
          (b.mask = 1#32 <<< s.own → 0 < s.cfg.lead → taken = .next { heard with
            barrier := some { again with
              start := some (s.link.cycle + BitVec.ofNat 16 s.cfg.lead) } }) ∧
          ((∃ m, m < 32 ∧ m ≠ s.own ∧ b.mask.getLsbD m = true) →
            (∀ m, m < 32 → m ≠ s.own → b.mask.getLsbD m = true →
              (s.peer m).presence = .unknown) →
            taken = .next { heard with barrier := some again }))) ∧
      (s.station = .idle → s.noWork → s.barrier = none → taken = .next heard) ∧
      (∀ e es, s.station = .idle → s.stack.residuals = [] → s.queue.entries = e :: es →
        s.barrier = none → s.seq.paused = false → s.groupHalted e.group = false →
        heard.groupHalted e.group = true →
        taken = .next { heard with seq := { s.seq with station := .held } }) ∧
      (∀ e es n, s.station = .held → s.stack.residuals = [] → s.queue.entries = e :: es →
        s.barrier = none → s.follow.phase = .none → s.seq.paused = false → s.drive.clear = .none →
        e.body = .dwell n → e.barrier = none → s.groupHalted e.group = true →
        heard.groupHalted e.group = false →
        taken = .next { heard with
          queue := { s.queue with entries := es }
          seq := { s.seq with station := .running, active := some (begins e n) } }))

/-- A HALTED group stays as it is until a RELEASE, a peer's vector, POWER_ON or PIN_RESET: no other
command changes anything of its entry (R110, R114, R122). -/
def Obligations.HaltedGroupStaysHalted : Prop :=
  ∀ (c : Instr) (s t : State) (g : Nat), (s.group g).condition = .halted →
    c ≠ .powerOn → c ≠ .pinReset → (∀ x d b, c ≠ .release x d b) → (∀ x d b, c ≠ .status x d b) →
    (∀ o n bs, c ≠ .frameReceived o n bs) → exec c s = .next t → t.group g = s.group g

/-! ### Faults, queries and STATION_RESET -/

/-- CLEAR_FAULT is refused outside FAULTED and while a persisting cause of a recorded kind is present,
and otherwise empties the Fault Log and takes the station to IDLE, or to HELD when its candidate's
group is HALTED (R185, R186, R28 to R30). -/
def Obligations.ClearFaultIsRefusedOrEndsTheEpisode : Prop :=
  ∀ (s : State) (sender : Nat) (dest : Byte), s.addressed dest →
    let present := (.driveFault ∈ s.faults.kinds ∧ s.drive.drvFlt = true) ∨
      (.followingError ∈ s.faults.kinds ∧ s.cfg.encoderMode ≠ .off ∧ s.cfg.followingWindow ≠ 0 ∧
        s.cfg.followingWindow < ((s.gen.position - s.encoder.position).toInt).natAbs)
    (s.station ≠ .faulted → exec (.clearFault sender dest []) s =
      .next { s with queue := s.queue.refused .clearFault none .state }) ∧
    (s.station = .faulted → present → exec (.clearFault sender dest []) s =
      .next { s with queue := s.queue.refused .clearFault none .causePresent }) ∧
    (s.station = .faulted → ¬present →
      (s.noWork → exec (.clearFault sender dest []) s = .next { s with
        faults := .reset, seq := { s.seq with station := .idle } }) ∧
      (∀ e es, s.queue.entries = e :: es → s.stack.residuals = [] → s.seq.paused = false →
        s.groupHalted e.group = true → exec (.clearFault sender dest []) s = .next { s with
          faults := .reset, seq := { s.seq with station := .held } }))

/-- A QUERY of a known kind, by its code of 13.6, becomes the pending query, and one it replaces is
counted; CLEAR goes with COUNTERS alone (R178, R180). -/
def Obligations.QueryBecomesPending : Prop :=
  ∀ (s : State) (sender : Nat) (dest b : Byte), s.addressed dest →
    let k := b.toNat % 128
    (k = 0 ∨ 6 < k ∨ (b.getLsbD 7 = true ∧ k ≠ 6) → exec (.query sender dest [b]) s =
      .next { s with queue := s.queue.refused .query none .badField }) ∧
    (∀ kind : QueryKind,
      k = (match kind with
        | .queue => 1 | .stack => 2 | .groups => 3 | .peers => 4 | .faults => 5 | .counters => 6) →
      (b.getLsbD 7 = true → k = 6) →
      exec (.query sender dest [b]) s = .next { s with link := { s.link with
        query := some ⟨kind, b.getLsbD 7, sender⟩
        droppedQueries :=
          if s.link.query = none then s.link.droppedQueries
          else if s.link.droppedQueries < 255 then s.link.droppedQueries + 1
          else s.link.droppedQueries } })

/-- The station is involved in the group of its active record, of its barrier record and of every residual
on its stack (R113), and a fault raises a halt of those groups that are CLEAR (R114, R115).
STATION_RESET, with neither level test finding a fault: the halts of the involved groups, the record
ended ABORTED, queue, stack, latch, Fault Log and counters emptied, the station IDLE; all else kept
(R24, R53, R88, R118, R189, R195). -/
def Obligations.StationResetEmptiesWorkAndKeepsTheRest : Prop :=
  (∀ (s : State) (g : Nat), s.involved g = true ↔
    g ≠ 0 ∧ ((∃ a, s.seq.active = some a ∧ a.work.group = g) ∨
      (∃ b, s.barrier = some b ∧ b.group = g) ∨
      ∃ r ∈ s.stack.residuals, r.group = g)) ∧
  (∀ (s : State) (cause : Cause) (originator : Nat), s.raiseInvolved cause originator = { s with
    groups := s.groups.mapIdx (fun i x =>
      if s.involved (i + 1) = true ∧ x.condition = .clear then
        ⟨x.epoch + 1, .halted, true, cause, some originator, s.link.cycle⟩
      else x) }) ∧
  ∀ (s : State) (sender : Nat) (dest : Byte), s.addressed dest → s.drive.drvFlt = false →
    s.errorBeyond = false →
    exec (.stationReset sender dest []) s = .next { s with
      groups := s.groups.mapIdx (fun i x =>
        if s.involved (i + 1) = true ∧ x.condition = .clear then
          ⟨x.epoch + 1, .halted, true, .reset, some sender, s.link.cycle⟩
        else x)
      link := { s.link with crcErrors := 0, slotViolations := 0, cycleSlips := 0, droppedQueries := 0 }
      queue := ⟨[], 0, true, ⟨none, none, none, 0⟩⟩
      stack := ⟨[], false, 0⟩
      seq := { s.seq with
        station := .idle, active := none, paused := false, chainBreaks := 0
        lastFinished := match s.seq.active with
          | none => s.seq.lastFinished
          | some a => some (a.work.tag, .aborted) }
      gen := s.gen.ceased, homing := .reset, follow := .reset
      encoder := { s.encoder with settle := none }, barrier := none
      faults := ⟨none, none, none, 0, []⟩ }

/-- What the Fault Log records. On an empty log, a fault that begins an episode, current fault, first and
last fault take it, the count is 1 and the recorded kinds are its kind alone; a fault that continues the
episode leaves the first fault, becomes current and last fault, raises the count by one up to 255, and
its kind joins the recorded kinds once. No command but CLEAR_FAULT, STATION_RESET, a frame that may carry
one, PIN_RESET and POWER_ON changes a first fault that is recorded (R182 to R184). -/
def Obligations.FirstFaultIsKept : Prop :=
  (∀ (f : FaultLog) (e : FaultEntry),
    (f.first = none → f.record e = ⟨some e.kind, some e, some e, 1, [e.kind]⟩) ∧
    (f.first ≠ none → f.record e = { f with
      current := some e.kind, last := some e
      count := if f.count < 255 then f.count + 1 else f.count
      kinds := if e.kind ∈ f.kinds then f.kinds else f.kinds ++ [e.kind] })) ∧
  ∀ (c : Instr) (s t : State) (e : FaultEntry), s.faults.first = some e →
    c ≠ .powerOn → c ≠ .pinReset → (∀ x d b, c ≠ .clearFault x d b) →
    (∀ x d b, c ≠ .stationReset x d b) → (∀ o n bs, c ≠ .frameReceived o n bs) →
    exec c s = .next t → t.faults.first = some e

/-- HOMED becomes set only by a SET_POSITION with its HOMED option, alone or in a frame, and, while a HOME
is active, by the happenings that complete it (R52). -/
def Obligations.HomedIsSetOnlyByHomingAndSetPosition : Prop :=
  ∀ (c : Instr) (s t : State), s.seq.homed = false → exec c s = .next t → t.seq.homed = true →
    (∃ x d b, c = .setPosition x d b ∧ (byteAt b 4).getLsbD 0 = true) ∨
    (∃ o n bs, c = .frameReceived o n bs ∧
      ∃ m ∈ frameMessages bs, m.kind = 5 ∧ (byteAt m.body 4).getLsbD 0 = true) ∨
    (s.activeKind = some .home ∧
      ((∃ a, c = .homeInputChange a) ∨ c = .indexEdge ∨ c = .stepDue))

/-! ### Motion -/

/-- A step of a counted run of a MOVE or GOTO that is not its last, with the following check off and no
commit watch: it moves the position by one in its direction and fixes the next rate by the ramp, the
cruise or the beginning of the deceleration (R57, R58, R60 to R62). Without a run no step falls due
(log 3). A step of an open run of a HOME also adds one to travel used, and a homing step that falls due
at the travel limit is not emitted and raises HOMING_FAILED (R70, R134, R135). -/
def Obligations.StepMovesByOneAndRatesTheNext : Prop :=
  (∀ s : State, s.gen.run = none → exec .stepDue s = .next s) ∧
  (∀ (s : State) (a : Active) (r : Run) (n : Nat),
    s.station = .running → s.seq.active = some a →
    (a.work.kind = .move ∨ a.work.kind = .goto) → s.cfg.followingWindow = 0 →
    s.gen.run = some r → r.kind = .counted → r.count = some n → r.commitWatch = false →
    r.emitted + 1 < n → s.gen.phase = .accelerating ∨ s.gen.phase = .cruising →
    0 < r.profile.d → (s.gen.phase = .cruising → r.nextRate = r.profile.ft) →
    let f := r.nextRate
    let k := r.baseSteps + 1
    let left := n - (r.emitted + 1)
    let braking := if r.endRate < f
      then (f * f - r.endRate * r.endRate + 2 * r.profile.d - 1) / (2 * r.profile.d) else 0
    let position := match s.gen.dir with
      | .pos => s.gen.position + 1
      | .neg => s.gen.position - 1
    (left ≤ braking → exec .stepDue s = .next { s with gen := { s.gen with
      phase := .decelerating, rate := f, position := position
      run := some { r with
        emitted := r.emitted + 1, baseRate := f, baseSteps := 0
        nextRate := max r.endRate (Nat.sqrt (f * f - 2 * r.profile.d)) } } }) ∧
    (braking < left → exec .stepDue s = .next { s with gen := { s.gen with
      phase := if f = r.profile.ft then .cruising else s.gen.phase
      rate := f, position := position
      run := some { r with
        emitted := r.emitted + 1, baseSteps := k
        nextRate := if f = r.profile.ft then r.profile.ft
          else min r.profile.ft
            (Nat.sqrt (r.baseRate * r.baseRate + 2 * r.profile.a * k)) } } })) ∧
  (∀ (s : State) (a : Active) (r : Run), s.seq.active = some a → a.work.kind = .home →
    s.gen.run = some r →
    (s.station = .running → s.homing.travelUsed < s.homing.travelLimit →
      s.cfg.followingWindow = 0 → r.kind = .openRun → r.count = none → r.commitWatch = false →
      s.gen.phase = .accelerating ∨ s.gen.phase = .cruising →
      let f := r.nextRate
      let phase : GenPhase := if f = r.profile.ft then .cruising else s.gen.phase
      exec .stepDue s = .next { s with
        homing := { s.homing with travelUsed := s.homing.travelUsed + 1 }
        gen := { s.gen with
          phase := phase, rate := f
          position := match s.gen.dir with
            | .pos => s.gen.position + 1
            | .neg => s.gen.position - 1
          run := some { r with
            emitted := r.emitted + 1, baseSteps := r.baseSteps + 1
            nextRate := if phase = .cruising then r.profile.ft
              else min r.profile.ft
                (Nat.sqrt (r.baseRate * r.baseRate + 2 * r.profile.a * (r.baseSteps + 1))) } } }) ∧
    (s.station = .running ∨ s.station = .stopping → s.homing.travelLimit ≤ s.homing.travelUsed →
      ∃ t, exec .stepDue s = .next t ∧ t.seq = s.seq.ended .faulted a.work.tag .faulted ∧
        t.gen = s.gen.ceased ∧ t.homing = .reset ∧ t.stack = s.stack ∧
        t.faults = s.faults.record ⟨.homingFailed, s.link.cycle, some a.work.tag, s.gen.position⟩ ∧
        t.groups = (s.raiseInvolved .fault s.own).groups))

/-- A record that brakes under a stop ends with the step that comes down to its start rate: FAULTED under
the fault-ended mark, ABORTED for an ABORT, and as a residual with the rest of its count for a PAUSE,
a HALT or a preemption; a PAUSE that finds the stack full sets OVERFLOW and ends ABORTED. A DWELL is at
standstill with its stop: an ABORT ends it ABORTED at once, and a PAUSE, a HALT or a preemption leaves a
residual with its remaining cycles (R38, R46, R48, R66, R74, R75, R78, R80, R81). -/
def Obligations.BrakingEndsByItsDisposition : Prop :=
  (∀ (s : State) (sender : Nat) (dest : Byte) (a : Active) (stop : Cycle), s.addressed dest →
    s.station = .running → s.seq.active = some a → a.work.kind = .dwell →
    a.dwellEnd = some stop → s.follow.phase = .none →
    let rest (origin : Origin) : Residual :=
      ⟨a.work.tag, a.work.group, a.work.barrier, a.work.profile, origin,
        .dwell (stop - s.link.cycle).toNat⟩
    let still : State := { s with
      gen := s.gen.ceased, homing := .reset, follow := .reset
      encoder := { s.encoder with settle := none }, barrier := none, queue := s.queue.unbound }
    (∀ m : Byte, m = 1 ∨ m = 2 → s.noWork → exec (.stop sender dest [m]) s = .next { still with
      seq := s.seq.ended .idle a.work.tag .aborted }) ∧
    ((∀ e ∈ s.queue.entries, e.insert = false) →
      (s.stack.residuals.length < 3 → exec (.stop sender dest [3]) s = .next { still with
        stack := { s.stack with residuals := rest .pause :: s.stack.residuals }
        seq := { s.seq with station := .idle, active := none, paused := true } }) ∧
      (∀ g : Byte, g.toNat = a.work.group → 1 ≤ g.toNat → g.toNat ≤ 15 → s.groups.length = 15 →
        (s.group g.toNat).condition = .clear → s.seq.paused = false →
        s.stack.residuals.length < 3 → exec (.halt sender dest [g]) s = .next { still with
          groups := s.groups.set (g.toNat - 1)
            ⟨(s.group g.toNat).epoch + 1, .halted, true, .commanded, some sender, s.link.cycle⟩
          stack := { s.stack with residuals := rest .halt :: s.stack.residuals }
          seq := { s.seq with station := .held, active := none } }) ∧
      (∀ body e n, 4 ≤ body.length → byteAt body 0 = s.queue.expected →
        segmentOf s.own s.cfg.span s.cfg.defaultProfile body = some e →
        s.queue.entries.length < 16 → e.insert = true → s.stack.residuals.length < 3 →
        e.body = .dwell n → e.barrier = none → s.groupHalted e.group = false →
        s.drive.clear = .none → exec (.segment sender dest body) s = .next { still with
          queue := { s.queue.unbound with expected := s.queue.expected + 1, fresh := false }
          stack := { s.stack with residuals := rest .preempt :: s.stack.residuals }
          seq := { s.seq with
            station := .running
            active := some ⟨.segment e, none, false, false, none,
              some (s.link.cycle + BitVec.ofNat 16 n)⟩ } }))) ∧
  ∀ (s : State) (a : Active) (r : Run) (n : Nat),
    s.station = .stopping → s.seq.active = some a → a.work.kind = .move →
    s.cfg.followingWindow = 0 → s.gen.phase = .braking → s.gen.run = some r → r.count = some n →
    r.commitWatch = false → r.emitted + 1 < n →
    let moved : Gen := { s.gen with
      rate := r.nextRate
      position := match s.gen.dir with
        | .pos => s.gen.position + 1
        | .neg => s.gen.position - 1 }
    let left : Int := match s.gen.dir with
      | .pos => ((n - (r.emitted + 1) : Nat) : Int)
      | .neg => -((n - (r.emitted + 1) : Nat) : Int)
    let rest (origin : Origin) : Residual :=
      ⟨a.work.tag, a.work.group, a.work.barrier, a.work.profile, origin, .move left⟩
    let still : State := { s with
      gen := moved.ceased, homing := .reset, follow := .reset
      encoder := { s.encoder with settle := none }, barrier := none }
    (r.profile.fs < r.nextRate → exec .stepDue s = .next { s with gen := { moved with
      run := some { r with
        emitted := r.emitted + 1, baseSteps := r.baseSteps + 1
        nextRate := max r.profile.fs
          (Nat.sqrt (r.baseRate * r.baseRate - 2 * r.profile.d * (r.baseSteps + 2))) } } }) ∧
    (r.nextRate ≤ r.profile.fs →
      (a.faultEnded = true → exec .stepDue s = .next { still with
        seq := s.seq.ended .faulted a.work.tag .faulted }) ∧
      (a.faultEnded = false →
        (a.disposition = some .abort → s.noWork → exec .stepDue s = .next { still with
          seq := s.seq.ended .idle a.work.tag .aborted }) ∧
        (a.disposition = some .pause → s.seq.paused = true →
          (∀ e, e ∈ s.queue.entries → e.insert = false) →
          (s.stack.residuals.length < 3 → exec .stepDue s = .next { still with
            stack := { s.stack with residuals := rest .pause :: s.stack.residuals }
            seq := { s.seq with station := .idle, active := none } }) ∧
          (3 ≤ s.stack.residuals.length → exec .stepDue s = .next { still with
            stack := { s.stack with
              overflow := true
              overflowCount :=
                if s.stack.overflowCount < 255 then s.stack.overflowCount + 1
                else s.stack.overflowCount }
            seq := s.seq.ended .idle a.work.tag .aborted })) ∧
        (a.disposition = some .halt → s.seq.paused = false → s.groupHalted a.work.group = true →
          (∀ e, e ∈ s.queue.entries → e.insert = false) → s.stack.residuals.length < 3 →
          exec .stepDue s = .next { still with
            stack := { s.stack with residuals := rest .halt :: s.stack.residuals }
            seq := { s.seq with station := .held, active := none } }) ∧
        (∀ e es c, a.disposition = some .preempt → s.queue.entries = e :: es → e.insert = true →
          e.body = .dwell c → e.barrier = none → s.groupHalted e.group = false →
          s.drive.clear = .none → exec .stepDue s = .next { still with
            stack := { s.stack with residuals := rest .preempt :: s.stack.residuals }
            queue := { s.queue with entries := es }
            seq := { s.seq with
              station := .running
              active := some ⟨.segment e, none, false, false, none,
                some (s.link.cycle + BitVec.ofNat 16 c)⟩ } })))

/-- At the commit point of a CHAIN record a queue head that qualifies is bound and the end rate becomes
the handover rate, and a missing successor is counted as a chain break; at the last step the bound
entry starts at that rate with the generator in motion (R41 to R43, R63 to R65). -/
def Obligations.ChainBindsAndHandsOver : Prop :=
  (∀ (s : State) (a : Active) (r : Run) (n : Nat),
    s.station = .running → s.seq.active = some a →
    (a.work.kind = .move ∨ a.work.kind = .goto) → s.cfg.followingWindow = 0 →
    s.gen.run = some r → r.kind = .counted → r.count = some n → r.commitWatch = true →
    r.emitted + 1 < n → s.gen.phase = .accelerating ∨ s.gen.phase = .cruising →
    let f := r.nextRate
    let braking := if r.profile.fs < f
      then (f * f - r.profile.fs * r.profile.fs + 2 * r.profile.d - 1) / (2 * r.profile.d) else 0
    let position := match s.gen.dir with
      | .pos => s.gen.position + 1
      | .neg => s.gen.position - 1
    0 < r.profile.d → n - (r.emitted + 1) ≤ max braking 1 → s.stack.residuals = [] →
    (∀ e es m, s.queue.entries = e :: es → e.insert = false → e.barrier = none →
      s.groupHalted e.group = false → s.seq.paused = false → e.body = .move m → m ≠ 0 →
      (0 < m ↔ s.gen.dir = .pos) →
      ∃ t, exec .stepDue s = .next t ∧
        t.queue = { s.queue with entries := { e with bound := true } :: es } ∧
        t.seq = { s.seq with active := some { a with bound := some e } } ∧
        t.gen.position = position ∧ ∃ r', t.gen.run = some r' ∧ r'.commitWatch = false ∧
        r'.endRate = min a.work.profile.ft e.profile.ft) ∧
    (s.queue.entries = [] →
      ∃ t, exec .stepDue s = .next t ∧ t.queue = s.queue ∧
        t.seq = { s.seq with chainBreaks :=
          if s.seq.chainBreaks < 255 then s.seq.chainBreaks + 1 else s.seq.chainBreaks } ∧
        t.gen.position = position ∧ ∃ r', t.gen.run = some r' ∧ r'.commitWatch = false ∧
        r'.endRate = r.endRate)) ∧
  (∀ (s : State) (a : Active) (r : Run) (n : Nat) (e : QueueEntry) (es : List QueueEntry) (m : Int),
    s.station = .running → s.seq.active = some a →
    (a.work.kind = .move ∨ a.work.kind = .goto) → a.bound.isSome = true → a.faultEnded = false →
    s.cfg.followingWindow = 0 → s.gen.phase ≠ .standstill → s.gen.phase ≠ .braking →
    s.gen.run = some r → r.count = some n → r.emitted + 1 = n →
    s.queue.entries = e :: es → e.body = .move m → m ≠ 0 → (0 < m ↔ s.gen.dir = .pos) →
    s.limitActive s.gen.dir = false → e.chain = false → s.groupHalted e.group = false →
    exec .stepDue s = .next { s with
      queue := { s.queue with entries := es }
      seq := { s.seq with
        lastFinished := some (a.work.tag, .done)
        active := some ⟨.segment { e with bound := false }, none, false, false, none, none⟩ }
      gen := { s.gen with
        phase := if r.endRate = e.profile.ft then .cruising else .accelerating
        rate := r.nextRate
        position := match s.gen.dir with
          | .pos => s.gen.position + 1
          | .neg => s.gen.position - 1
        dirHigh := match s.gen.dir with
          | .pos => !s.cfg.reversed
          | .neg => s.cfg.reversed
        run := some ⟨.counted, some m.natAbs, 0, e.profile, e.profile.fs, r.endRate, 0, false,
          r.endRate⟩ }
      homing := .reset, follow := .reset, encoder := { s.encoder with settle := none }
      barrier := none })

/-- A counted run that nothing disturbs emits its steps to the last: as many STEP_DUE as steps are left
move the position by that many, and the record ends DONE at standstill (R35, R58, R65). -/
def Obligations.UndisturbedRunEmitsItsCount : Prop :=
  ∀ (s : State) (a : Active) (r : Run) (n k : Nat),
    s.station = .running → s.seq.active = some a →
    (a.work.kind = .move ∨ a.work.kind = .goto) → a.bound = none → a.faultEnded = false →
    s.cfg.encoderMode = .off → s.noWork →
    s.gen.run = some r → r.kind = .counted → r.count = some n → r.commitWatch = false →
    s.gen.phase = .accelerating ∨ s.gen.phase = .cruising ∨ s.gen.phase = .decelerating →
    0 < k → r.emitted + k = n →
    ∃ t, runCommands (List.replicate k .stepDue) s = .next t ∧
      t.gen.position = s.gen.position + BitVec.ofInt 32 (signed s.gen.dir k) ∧
      t.gen.phase = .standstill ∧ t.gen.rate = 0 ∧ t.gen.run = none ∧ t.gen.dir = s.gen.dir ∧
      t.seq = s.seq.ended .idle a.work.tag .done ∧
      t.encoder.position = s.encoder.position ∧ t.groups = s.groups ∧ t.faults = s.faults ∧
      t.link = s.link ∧ t.queue = s.queue ∧ t.stack = s.stack ∧ t.drive = s.drive

/-- The exits of homing. Outside a HOME record HOME and ENC-Z are recorded and not acted on. SEEK: HOME
orders the braking, which ends in CLEAR; the limit on side d leads to REVERSE_SEEK, or cuts the braking
short into CLEAR. REVERSE_SEEK and CLEAR: HOME seen and then INACTIVE begins the clearance, whose last
step ends in APPROACH. APPROACH: HOME ends the homing or begins INDEX, also at the entry; INDEX: the
last index edge ends it. Each phase is entered with its entry test and its first step in the same
happening. Completion writes the home offset to both positions, sets HOMED and ends DONE, or settles:
whether an encoder edge falls before the settle check is free (R129 to R132, R134 to R136, R138; log
32). That the limit fails the entry of APPROACH with HOME ACTIVE there too is the model's reading (log
21), and the end rate of the open and flat runs and the ramp base of the flat ones are its choice (log
39), and so is that the count of the clearance is not cut at 16,777,215 (log 40). -/
def Obligations.HomingExitsAndCompletion : Prop :=
  (∀ (s : State), s.loader.load = .loaded →
    (s.activeKind ≠ some .home →
      exec .indexEdge s = .next { s with drive := { s.drive with encZ := true } }) ∧
    (∀ x, s.activeKind ≠ some .home → s.drive.home ≠ x →
      exec (.homeInputChange x) s = .next { s with drive := { s.drive with home := x } })) ∧
  (∀ (s : State) (a : Active), s.loader.load = .loaded → s.station = .running →
    s.seq.active = some a → a.work.kind = .home →
    let p := a.work.profile
    let d := s.homing.dir
    let away := opposite d
    let begun : GenPhase := if p.fs = p.ft then .cruising else .accelerating
    -- the last exits
    (s.homing.phase = .index → 2 ≤ s.homing.indexRemaining →
      exec .indexEdge s = .next { s with
        drive := { s.drive with encZ := true }
        homing := { s.homing with indexRemaining := s.homing.indexRemaining - 1 } }) ∧
    (a.faultEnded = false → s.cfg.encoderMode = .off ∨ s.cfg.settleWindow = 0 → s.noWork →
      let done : State := { s with
        gen := { s.gen.ceased with position := s.homing.offset }
        encoder := { s.encoder with position := s.homing.offset, remainder := 0, settle := none }
        seq := { s.seq.ended .idle a.work.tag .done with homed := true }
        homing := .reset, follow := .reset, barrier := none }
      (s.homing.phase = .index → s.homing.indexRemaining = 1 →
        exec .indexEdge s = .next { done with drive := { s.drive with encZ := true } }) ∧
      (s.homing.phase = .approach → s.homing.indexRemaining = 0 → s.drive.home = false →
        exec (.homeInputChange true) s =
          .next { done with drive := { s.drive with home := true } })) ∧
    (a.faultEnded = false → s.cfg.encoderMode ≠ .off → s.cfg.settleWindow ≠ 0 → s.noWork →
      s.homing.phase = .approach → s.homing.indexRemaining = 0 → s.drive.home = false →
      ∃ t, exec (.homeInputChange true) s = .next t ∧ t.gen.position = s.homing.offset ∧
        t.gen.phase = .standstill ∧ t.gen.run = none ∧ t.homing = .reset ∧ t.queue = s.queue ∧
        t.stack = s.stack ∧
        (t.station = .idle ∨ t.station = .settling ∨ t.station = .faulted) ∧
        (t.station = .idle → t.seq = { s.seq.ended .idle a.work.tag .done with homed := true }) ∧
        (t.station = .settling → t.seq.homed = true ∧ t.encoder.settle = some 0 ∧
          t.seq.active = some { a with disposition := none, reserved := false }) ∧
        (t.station = .faulted → t.seq.lastFinished = some (a.work.tag, .faulted))) ∧
    (s.homing.phase = .approach → s.homing.indexRemaining ≠ 0 → s.drive.home = false →
      s.limitActive d = false →
      exec (.homeInputChange true) s = .next { s with
        drive := { s.drive with home := true }
        homing := { s.homing with phase := .index, leg := .moving } }) ∧
    -- HOME and the limit on side d in SEEK
    (∀ r, s.homing.phase = .seek → s.homing.leg = .moving → s.drive.home = false →
      s.gen.run = some r → s.gen.phase = .accelerating ∨ s.gen.phase = .cruising →
      r.profile.fs < s.gen.rate →
      exec (.homeInputChange true) s = .next { s with
        drive := { s.drive with home := true }
        homing := { s.homing with leg := .ending }
        gen := s.gen.brake }) ∧
    (s.homing.phase = .seek → s.limitActive d = false →
      let drive := match d with
        | .pos => { s.drive with limPos := true }
        | .neg => { s.drive with limNeg := true }
      let next : HomingPhase := if s.homing.leg = .moving then .reverseSeek else .clear
      (s.limitActive away = false → s.cfg.followingWindow = 0 →
        s.homing.travelUsed < s.homing.travelLimit →
        exec (.limitInputChange d true) s = .next { s with
          drive := drive
          homing := { s.homing with
            phase := next, leg := .moving, homeSeen := s.drive.home
            travelUsed := s.homing.travelUsed + 1 }
          gen := s.gen.stepped s.cfg away begun p.fs (.seekBegun p) }) ∧
      (s.limitActive away = true →
        ∃ t, exec (.limitInputChange d true) s = .next t ∧
          t.seq = s.seq.ended .faulted a.work.tag .faulted ∧ t.gen = s.gen.ceased ∧
          t.faults = s.faults.record
            ⟨.homingFailed, s.link.cycle, some a.work.tag, s.gen.position⟩)) ∧
    -- the end of the braking of SEEK
    (∀ r, s.homing.phase = .seek → s.homing.leg = .ending → s.gen.phase = .braking →
      s.gen.run = some r → r.count = none → r.nextRate ≤ r.profile.fs →
      s.gen.dir = d → s.limitActive away = false → s.cfg.followingWindow = 0 →
      s.homing.travelUsed + 1 < s.homing.travelLimit →
      exec .stepDue s = .next { s with
        homing := { s.homing with
          phase := .clear, leg := .moving, homeSeen := s.drive.home
          travelUsed := s.homing.travelUsed + 2 }
        gen := { s.gen.stepped s.cfg away begun p.fs (.seekBegun p) with
          position := s.gen.position } }) ∧
    -- REVERSE_SEEK and CLEAR
    (s.homing.phase = .reverseSeek ∨ s.homing.phase = .clear →
      (s.homing.leg = .moving → s.drive.home = false →
        exec (.homeInputChange true) s = .next { s with
          drive := { s.drive with home := true }
          homing := { s.homing with homeSeen := true } }) ∧
      (∀ x, s.drive.home ≠ x → s.homing.leg = .ending ∨ (x = false ∧ s.homing.homeSeen = false) →
        exec (.homeInputChange x) s = .next { s with drive := { s.drive with home := x } }) ∧
      (∀ r, s.homing.leg = .moving → s.drive.home = true → s.homing.homeSeen = true →
        s.gen.run = some r →
        (s.cfg.clearance ≠ 0 →
          exec (.homeInputChange false) s = .next { s with
            drive := { s.drive with home := false }
            homing := { s.homing with leg := .ending }
            gen := { s.gen with run := some { r with
              kind := .counted, count := some (r.emitted + s.cfg.clearance)
              endRate := r.profile.fs } } }) ∧
        (s.cfg.clearance = 0 → s.gen.phase = .accelerating ∨ s.gen.phase = .cruising →
          r.profile.fs < s.gen.rate →
          exec (.homeInputChange false) s = .next { s with
            drive := { s.drive with home := false }
            homing := { s.homing with leg := .ending }
            gen := s.gen.brake })) ∧
      -- the last step of the clearance, and the entry of APPROACH
      (∀ r n, s.homing.leg = .ending → s.gen.run = some r → r.count = some n → r.emitted + 1 = n →
        s.gen.dir = away → s.cfg.followingWindow = 0 →
        s.homing.travelUsed + 1 < s.homing.travelLimit →
        let moved := match away with
          | .pos => s.gen.position + 1
          | .neg => s.gen.position - 1
        (s.limitActive d = true →
          ∃ t, exec .stepDue s = .next t ∧ t.seq = s.seq.ended .faulted a.work.tag .faulted ∧
            t.gen.position = moved ∧ t.gen.run = none ∧
            t.faults = s.faults.record ⟨.homingFailed, s.link.cycle, some a.work.tag, moved⟩) ∧
        (s.limitActive d = false →
          s.drive.home = false ∨ s.homing.indexRemaining ≠ 0 →
          exec .stepDue s = .next { s with
            homing := { s.homing with
              phase := if s.drive.home = true then .index else .approach
              leg := .moving, travelUsed := s.homing.travelUsed + 2 }
            gen := { s.gen.stepped s.cfg d .flat p.fs
                ⟨.flat, none, 1, p, p.fs, p.fs, 1, false, p.fs⟩ with
              position := s.gen.position } }) ∧
        (s.limitActive d = false →
          s.drive.home = true → s.homing.indexRemaining = 0 →
          a.faultEnded = false → s.cfg.encoderMode = .off ∨ s.cfg.settleWindow = 0 → s.noWork →
          ∃ t, exec .stepDue s = .next t ∧ t.gen.position = s.homing.offset ∧ t.gen.run = none ∧
            t.encoder.position = s.homing.offset ∧
            t.seq = { s.seq.ended .idle a.work.tag .done with homed := true }))))

/-- A limit that becomes ACTIVE stops a record that steps toward it, FAULTED at once with its groups
halted and DRV-CLR pulsed when enabled; away from the motion, and becoming INACTIVE, it is only
recorded (R151, R153, R183). In a HOME a limit that becomes ACTIVE in REVERSE_SEEK, CLEAR, APPROACH or
INDEX, and one on the braked side of a HOME that is STOPPING, is HOMING_FAILED; the limit opposite to d
in SEEK, and the far one of a HOME that is STOPPING, is only recorded (R133, R135). A state given again,
or before the load, changes nothing (log 17). -/
def Obligations.LimitStopsTheRecordThatStepsTowardIt : Prop :=
  ∀ (s : State) (side : Side) (x : Bool),
    (s.loader.load ≠ .loaded ∨ s.limitActive side = x →
      exec (.limitInputChange side x) s = .next s) ∧
    (s.loader.load = .loaded → s.limitActive side ≠ x → s.activeKind ≠ some .home →
      let drive := match side with
        | .pos => { s.drive with limPos := x }
        | .neg => { s.drive with limNeg := x }
      (x = false ∨ s.steppingToward side = false →
        exec (.limitInputChange side x) s = .next { s with drive := drive }) ∧
      (∀ a, x = true → s.steppingToward side = true → s.seq.active = some a →
        let kind : FaultKind := match side with
          | .pos => .limitPos
          | .neg => .limitNeg
        ∃ t, exec (.limitInputChange side x) s = .next t ∧
          t.seq = s.seq.ended .faulted a.work.tag .faulted ∧
          t.gen = s.gen.ceased ∧ t.stack = s.stack ∧ t.link = s.link ∧ t.peers = s.peers ∧
          t.faults = s.faults.record ⟨kind, s.link.cycle, some a.work.tag, s.gen.position⟩ ∧
          t.groups = (s.raiseInvolved .fault s.own).groups ∧ t.barrier = none ∧
          t.drive = (if s.cfg.clrEnabled = true then
            { drive with clear := .pulse, pulseTimer := some s.cfg.clrLength, holdoffTimer := none }
            else drive))) ∧
    (∀ a, s.loader.load = .loaded → s.limitActive side ≠ x → s.seq.active = some a →
      a.work.kind = .home →
      let drive := match side with
        | .pos => { s.drive with limPos := x }
        | .neg => { s.drive with limNeg := x }
      let later := s.homing.phase = .reverseSeek ∨ s.homing.phase = .clear ∨
        s.homing.phase = .approach ∨ s.homing.phase = .index
      (x = false ∨ (s.station = .running ∧ s.homing.phase = .seek ∧ side ≠ s.homing.dir) ∨
          (s.station = .stopping ∧ side ≠ s.gen.dir) →
        exec (.limitInputChange side x) s = .next { s with drive := drive }) ∧
      (x = true → (s.station = .running ∧ later) ∨ (s.station = .stopping ∧ side = s.gen.dir) →
        ∃ t, exec (.limitInputChange side x) s = .next t ∧
          t.seq = s.seq.ended .faulted a.work.tag .faulted ∧
          t.gen = s.gen.ceased ∧ t.homing = .reset ∧ t.stack = s.stack ∧ t.barrier = none ∧
          t.faults = s.faults.record
            ⟨.homingFailed, s.link.cycle, some a.work.tag, s.gen.position⟩ ∧
          t.groups = (s.raiseInvolved .fault s.own).groups ∧
          t.drive = (if s.cfg.clrEnabled = true then
            { drive with clear := .pulse, pulseTimer := some s.cfg.clrLength, holdoffTimer := none }
            else drive)))

/-- DRV-FLT becoming ACTIVE records DRIVE_FAULT, clears HOMED and takes the station to FAULTED from
every state from IDLE onward, ending an active record FAULTED at once; in OFFLINE it raises nothing,
and becoming INACTIVE it raises and clears nothing (R49, R52, R152, R183, R184). -/
def Obligations.DriveFaultActsInEveryState : Prop :=
  ∀ (s : State) (x : Bool), s.loader.load = .loaded → s.drive.drvFlt ≠ x →
    (x = false ∨ s.station = .offline →
      exec (.drvFltChange x) s = .next { s with drive := { s.drive with drvFlt := x } }) ∧
    (x = true → s.recordInv → s.station ≠ .offline →
      ∃ t, exec (.drvFltChange x) s = .next t ∧ t.station = .faulted ∧ t.seq.active = none ∧
        t.seq.homed = false ∧ t.seq.paused = s.seq.paused ∧ t.stack = s.stack ∧
        t.gen.position = s.gen.position ∧ t.drive.drvFlt = true ∧
        t.drive.clear = (if s.cfg.clrEnabled = true then .pulse else s.drive.clear) ∧
        t.faults = s.faults.record
          ⟨.driveFault, s.link.cycle, s.seq.active.map (fun a => a.work.tag), s.gen.position⟩ ∧
        t.groups = (s.raiseInvolved .fault s.own).groups ∧
        t.seq.lastFinished = (match s.seq.active with
          | none => s.seq.lastFinished
          | some a => some (a.work.tag, .faulted)))

/-- A single change of the encoder pair is counted by the mode's table under the direction sense and
through the divisor; a double change in UP/DOWN mode leaves the count where it was, and in a quadrature
mode it counts nothing and raises ENCODER_ERROR in every state from IDLE onward. A change of either
position that takes the following error from within the following window to beyond it raises
FOLLOWING_ERROR, ends an active record FAULTED and clears HOMED. A MOVE or GOTO whose last step leaves
the error beyond the settle window goes to SETTLING, and the first edge that brings the error within
it ends the record DONE (R35, R37, R52, R155 to R159). That both orders of the two edges of a double
change leave the count follows from the order the model takes (log 12), and that the fault comes before
the last step is taken where one step brings both is its choice (log 13). -/
def Obligations.EncoderChangeIsCountedByItsMode : Prop :=
  (∀ (s : State) (old : Bool × Bool) (a b : Bool), s.loader.load = .loaded →
    s.encoder.pair = some old → (s.drive.encA, s.drive.encB) = old → (a, b) ≠ old →
    let drive := { s.drive with encA := a, encB := b }
    let edge : Option Side :=
      if old.1 ≠ a then
        match s.cfg.encoderMode with
        | .off => none
        | .quad1 => if a = true then some (if b = true then .neg else .pos) else none
        | .quad2 => some (if a ≠ b then .pos else .neg)
        | .quad4 => some (if a ≠ b then .pos else .neg)
        | .upDown => if a = true then some .pos else none
      else
        match s.cfg.encoderMode with
        | .off => none
        | .quad1 => none
        | .quad2 => none
        | .quad4 => some (if b = a then .pos else .neg)
        | .upDown => if b = true then some .neg else none
    let sensed := edge.map (fun d => if s.cfg.reversed = true then opposite d else d)
    let taken : Encoder := { s.encoder with pair := some (a, b) }
    let counted : Encoder := match sensed with
      | none => taken
      | some .pos =>
        if (s.cfg.divisor : Int) ≤ s.encoder.remainder + 1 then
          { taken with position := s.encoder.position + 1, remainder := 0 }
        else { taken with remainder := s.encoder.remainder + 1 }
      | some .neg =>
        if s.encoder.remainder - 1 ≤ -(s.cfg.divisor : Int) then
          { taken with position := s.encoder.position - 1, remainder := 0 }
        else { taken with remainder := s.encoder.remainder - 1 }
    let size (p : Position) : Nat := ((s.gen.position - p).toInt).natAbs
    let checked := s.cfg.encoderMode ≠ .off ∧ s.cfg.followingWindow ≠ 0
    let crosses := checked ∧ size s.encoder.position ≤ s.cfg.followingWindow ∧
      s.cfg.followingWindow < size counted.position
    let faulted (k : FaultKind) (e : Encoder) : Prop :=
      ∃ t, exec (.encoderChange a b) s = .next t ∧ t.station = .faulted ∧ t.seq.active = none ∧
        t.seq.homed = false ∧ t.seq.paused = s.seq.paused ∧ t.stack = s.stack ∧
        t.gen.position = s.gen.position ∧ t.encoder.position = e.position ∧
        t.encoder.remainder = e.remainder ∧ t.encoder.pair = some (a, b) ∧
        t.faults = s.faults.record
          ⟨k, s.link.cycle, s.seq.active.map (fun a => a.work.tag), s.gen.position⟩ ∧
        t.groups = (s.raiseInvolved .fault s.own).groups ∧
        t.seq.lastFinished = (match s.seq.active with
          | none => s.seq.lastFinished
          | some a => some (a.work.tag, .faulted))
    (old.1 = a ∨ old.2 = b →
      (s.station ≠ .settling → ¬crosses ∨ s.station = .offline →
        exec (.encoderChange a b) s = .next { s with drive := drive, encoder := counted }) ∧
      (s.recordInv → s.station ≠ .offline → crosses → faulted .followingError counted) ∧
      (∀ x n, s.station = .settling → s.seq.active = some x → s.encoder.settle = some n → ¬crosses →
        (counted.position = s.encoder.position ∨ s.cfg.settleWindow < size counted.position →
          exec (.encoderChange a b) s = .next { s with drive := drive, encoder := counted }) ∧
        (counted.position ≠ s.encoder.position → size counted.position ≤ s.cfg.settleWindow →
          s.noWork → exec (.encoderChange a b) s = .next { s with
            drive := drive, encoder := { counted with settle := none }
            seq := s.seq.ended .idle x.work.tag .done
            gen := s.gen.ceased, homing := .reset, follow := .reset, barrier := none }))) ∧
    (old.1 ≠ a → old.2 ≠ b →
      (s.cfg.encoderMode = .off → exec (.encoderChange a b) s =
        .next { s with drive := drive, encoder := taken }) ∧
      (s.cfg.encoderMode = .quad1 ∨ s.cfg.encoderMode = .quad2 ∨ s.cfg.encoderMode = .quad4 →
        (s.station = .offline → exec (.encoderChange a b) s =
          .next { s with drive := drive, encoder := taken }) ∧
        (s.recordInv → s.station ≠ .offline → faulted .encoderError taken)) ∧
      (s.cfg.encoderMode = .upDown → s.cfg.followingWindow = 0 → s.station ≠ .settling →
        1 ≤ s.cfg.divisor → s.encoder.remainder.natAbs < s.cfg.divisor →
        exec (.encoderChange a b) s = .next { s with drive := drive, encoder := taken }))) ∧
  (∀ (s : State) (a : Active) (r : Run) (n : Nat),
    s.station = .running → s.seq.active = some a →
    (a.work.kind = .move ∨ a.work.kind = .goto) → s.cfg.encoderMode ≠ .off →
    s.gen.run = some r → r.count = some n →
    let moved := match s.gen.dir with
      | .pos => s.gen.position + 1
      | .neg => s.gen.position - 1
    let size (p : Position) : Nat := ((p - s.encoder.position).toInt).natAbs
    (s.cfg.followingWindow ≠ 0 → size s.gen.position ≤ s.cfg.followingWindow →
      s.cfg.followingWindow < size moved →
      ∃ t, exec .stepDue s = .next t ∧
        t.seq = { s.seq.ended .faulted a.work.tag .faulted with homed := false } ∧
        t.gen = { s.gen.ceased with position := moved } ∧ t.stack = s.stack ∧
        t.faults = s.faults.record ⟨.followingError, s.link.cycle, some a.work.tag, moved⟩ ∧
        t.groups = (s.raiseInvolved .fault s.own).groups) ∧
    (s.cfg.followingWindow = 0 → r.emitted + 1 = n → a.bound = none → a.faultEnded = false →
      s.cfg.settleWindow ≠ 0 →
      (s.cfg.settleWindow < size moved → exec .stepDue s = .next { s with
        gen := { s.gen.ceased with position := moved }
        encoder := { s.encoder with settle := some 0 }
        seq := { s.seq with
          station := .settling
          active := some { a with disposition := none, reserved := false } } }) ∧
      (size moved ≤ s.cfg.settleWindow → s.noWork → exec .stepDue s = .next { s with
        gen := { s.gen.ceased with position := moved }
        encoder := { s.encoder with settle := none }
        seq := s.seq.ended .idle a.work.tag .done
        homing := .reset, follow := .reset, barrier := none })))

/-- The pulse ends in the holdoff, and the holdoff in NONE; a holdoff of 0 ends with the pulse. The end
of the holdoff dispatches and starts a waiting candidate, the queue head or the stack top: a DWELL takes
its dwell end; a MOVE or GOTO emits its first step at its start rate, and a GOTO that is at its target
ends DONE; a FOLLOW takes its reference from the leader's STATUS; a HOME enters its first phase. A
residual resumes with its remaining count, its target found anew, or its remaining cycles, and a barrier
residual arms from the stack top. A start check that fails ends the record FAULTED without a step:
NOT_HOMED, RANGE, the limit toward the first step, FOLLOW_LOST, and HOMING_FAILED for the leading limit
of a HOME. A latch keeps a residual waiting in IDLE, and a HALTED group in HELD (R28, R33, R34, R38,
R60, R82 to R86, R90, R128, R129, R140, R153, R154). The end of a timer that does not run changes
nothing (log 3), and the end rate of the open run of a HOME is the model's choice (log 39). -/
def Obligations.PulseThenHoldoffThenDispatch : Prop :=
  ∀ s : State,
    let clear := { s.drive with clear := .none, pulseTimer := none, holdoffTimer := none }
    (s.drive.clear ≠ .pulse → exec .drvClrPulseEnd s = .next s) ∧
    (s.drive.clear ≠ .hold → exec .holdoffEnd s = .next s) ∧
    (s.drive.clear = .pulse → s.cfg.holdoff ≠ 0 →
      exec .drvClrPulseEnd s = .next { s with drive := { s.drive with
        clear := .hold, pulseTimer := none, holdoffTimer := some s.cfg.holdoff } }) ∧
    (s.drive.clear = .pulse → s.cfg.holdoff = 0 → s.busy →
      exec .drvClrPulseEnd s = .next { s with drive := clear }) ∧
    (s.drive.clear = .hold → s.busy → exec .holdoffEnd s = .next { s with drive := clear }) ∧
    (s.drive.clear = .hold → s.station = .idle → s.motionInv → s.chainInv →
      s.cfg.followingWindow = 0 →
      let ended := exec .holdoffEnd s
      let record (w : Work) : Active := ⟨w, none, false, false, none, none⟩
      let running (w : Work) : Sequencer :=
        { s.seq with station := .running, active := some (record w) }
      let begun (p : Profile) : GenPhase := if p.fs = p.ft then .cruising else .accelerating
      let side (n : Int) : Side := if 0 < n then .pos else .neg
      -- a start check fails; `free` is the state whose candidate has left its place
      let fails (free : State) (w : Work) (k : FaultKind) : Prop := ∃ t, ended = .next t ∧
        t.seq = s.seq.ended .faulted w.tag .faulted ∧ t.queue = free.queue ∧ t.stack = free.stack ∧
        t.gen = s.gen.ceased ∧
        t.faults = s.faults.record ⟨k, s.link.cycle, some w.tag, s.gen.position⟩ ∧
        t.groups = ({ free with seq := running w }.raiseInvolved .fault s.own).groups
      let dwells (free : State) (w : Work) (n : Nat) : Prop := ended = .next { free with
        seq := { running w with active := some { record w with
          dwellEnd := some (s.link.cycle + BitVec.ofNat 16 n) } } }
      -- a counted distance of `n`
      let counts (free : State) (w : Work) (p : Profile) (n : Int) : Prop :=
        (s.limitActive (side n) = true →
          fails free w (match side n with | .pos => .limitPos | .neg => .limitNeg)) ∧
        (s.limitActive (side n) = false → w.chain = false → 2 ≤ n.natAbs →
          ended = .next { free with
            seq := running w
            gen := s.gen.stepped s.cfg (side n) (begun p) p.fs
              ⟨.counted, some n.natAbs, 1, p, p.fs, p.fs, 1, false,
                if p.fs = p.ft then p.ft
                else min p.ft (Nat.sqrt (p.fs * p.fs + 2 * p.a))⟩ })
      let goes (free : State) (w : Work) (p : Profile) (target : Position) : Prop :=
        let n := (target - s.gen.position).toInt
        (s.seq.homed = false → fails free w .notHomed) ∧
        (s.seq.homed = true → 16777215 < n.natAbs → fails free w .range) ∧
        (s.seq.homed = true → n.natAbs ≤ 16777215 → n ≠ 0 → counts free w p n) ∧
        (s.seq.homed = true → n = 0 → free.noWork →
          s.cfg.encoderMode = .off ∨ s.cfg.settleWindow = 0 →
          ended = .next { free with
            seq := s.seq.ended .idle w.tag .done
            gen := s.gen.ceased, homing := .reset, follow := .reset
            encoder := { s.encoder with settle := none }, barrier := none })
      (∀ e es, s.queue.entries = e :: es → s.stack.residuals = [] ∨ e.insert = true →
        s.seq.paused = false ∨ e.insert = true → s.groupHalted e.group = false →
        e.barrier = none →
        let w : Work := .segment e
        let free : State := { s with drive := clear, queue := { s.queue with entries := es } }
        (∀ n, e.body = .dwell n → dwells free w n) ∧
        (∀ n, e.body = .move n → n ≠ 0 → counts free w e.profile n) ∧
        (∀ target, e.body = .goto target → goes free w e.profile target) ∧
        (∀ leader num den bound, e.body = .follow leader num den bound →
          ((s.peer leader).presence ≠ .present ∨ (s.peer leader).status = none →
            fails free w .followLost) ∧
          (∀ p, (s.peer leader).presence = .present → (s.peer leader).status = some p →
            ended = .next { free with
              seq := running w
              follow := ⟨.tracking, leader, num, den, p.position, 0, 0, 0, bound, 0, none,
                none⟩ })) ∧
        (∀ d count offset bound, e.body = .home d count offset bound → bound ≠ some 0 →
          let first : HomingPhase := if s.drive.home = true then .clear
            else if s.limitActive d = true then .reverseSeek else .seek
          let way := if first = .seek then d else opposite d
          (s.limitActive way = false → ended = .next { free with
            seq := { running w with homed := false }
            homing := ⟨first, .moving, d, s.drive.home && decide (first ≠ .seek), count, 1,
              bound.getD 16777215, offset⟩
            gen := s.gen.stepped s.cfg way (begun e.profile) e.profile.fs
              (.seekBegun e.profile) }) ∧
          (s.limitActive way = true → ∃ t, ended = .next t ∧
            t.seq = { s.seq.ended .faulted e.tag .faulted with homed := false } ∧
            t.gen = s.gen.ceased ∧ t.homing = .reset ∧
            t.faults = s.faults.record
              ⟨.homingFailed, s.link.cycle, some e.tag, s.gen.position⟩))) ∧
      (∀ r rs, s.stack.residuals = r :: rs → (∀ e ∈ s.queue.entries, e.insert = false) →
        let w : Work := .residual r
        let free : State := { s with drive := clear, stack := { s.stack with residuals := rs } }
        (s.seq.paused = true → ended = .next { s with drive := clear }) ∧
        (s.seq.paused = false → s.groupHalted r.group = true →
          ended = .next { s with drive := clear, seq := { s.seq with station := .held } }) ∧
        (s.seq.paused = false → s.groupHalted r.group = false →
          (r.barrier = none →
            (∀ n, r.remaining = .dwell n → dwells free w n) ∧
            (∀ n, r.remaining = .move n → n ≠ 0 → counts free w r.profile n) ∧
            (∀ target, r.remaining = .goto target → goes free w r.profile target)) ∧
          (∀ k, r.barrier = some k → s.own < 32 →
            (∃ m, m < 32 ∧ m ≠ s.own ∧ k.mask.getLsbD m = true) →
            (∀ m, m < 32 → m ≠ s.own → k.mask.getLsbD m = true →
              (s.peer m).presence = .unknown) →
            ended = .next { s with
              drive := clear
              seq := { s.seq with station := .armed }
              barrier := some ⟨r.group, k.number, (s.group r.group).epoch, k.mask, k.waitLimit,
                s.link.cycle, .armed, none, 0, k.mask &&& ~~~(1#32 <<< s.own)⟩ }))))

/-- Following: a conversion takes the quotient truncated toward zero and carries the remainder with its
sign, takes the new reference and sets the silence count to 0; so however the leader's motion is split
among STATUS messages, the steps converted and the remainder carried make up its whole motion through
the ratio. A conversion beyond the catch-up limit raises FOLLOW_OVERRUN (R141, R142). Any other
conversion pays: nothing for an unchanged owed; an immediate stop for an owed of 0; a new count at the
present rate in the direction of the run; and otherwise, with the limit on that side tested, a first
step emitted at once, at Ft in the last direction and at Fs as a turn against it. Each step counts,
within the range of the followed count, past whose end the value is free (R139, log 36); the second step
of a turn goes over to Ft; the last step stands still, and the step that reaches the count bound ends
the record DONE, also while it brakes (R143 to R146). The end rate and the ramp base of the flat runs are
the model's choice (log 39). -/
def Obligations.FollowerConvertsWithoutLoss : Prop :=
  (∀ (f : Follow) (p : Position), 0 < f.den →
    let g := f.convert p
    let t := ((p - f.reference).toInt) * f.num + f.remainder
    (g.owed - f.owed) * f.den + g.remainder = t ∧ g.remainder.natAbs < f.den ∧
      (0 ≤ t → 0 ≤ g.remainder) ∧ (t ≤ 0 → g.remainder ≤ 0) ∧
      g = { f with reference := p, owed := g.owed, remainder := g.remainder, silence := 0 }) ∧
  (∀ f : Follow, (f.followed < 16777215 → f.counted = f.followed + 1) ∧ f.counted ≤ 16777215) ∧
  (∀ (f : Follow) (ps : List Position), 0 < f.den → f.remainder.natAbs < f.den →
    let g := ps.foldl Follow.convert f
    let deltas := (List.zipWith diff32 ps (f.reference :: ps)).sum
    g.remainder.natAbs < f.den ∧
      (g.owed - f.owed) * f.den + g.remainder = deltas * f.num + f.remainder) ∧
  (∀ (s : State) (a : Active) (dest : Byte) (body : List Byte) (p : PeerStatus),
    s.link.state = .joined → s.station = .running → s.seq.active = some a →
    a.work.kind = .follow → s.follow.phase = .tracking → s.follow.leader ≠ s.own →
    statusOf body = some p → s.agrees p → s.barrier = none →
    s.cfg.catchUp < (s.follow.convert p.position).owed.natAbs →
    ∃ t, exec (.status s.follow.leader dest body) s = .next t ∧
      t.seq = s.seq.ended .faulted a.work.tag .faulted ∧ t.faults.current = some .followOverrun ∧
      t.gen = s.gen.ceased ∧ t.follow = .reset ∧ t.stack = s.stack) ∧
  (∀ (s : State) (a : Active) (dest : Byte) (body : List Byte) (p : PeerStatus),
    s.link.state = .joined → s.station = .running → s.seq.active = some a →
    a.work.kind = .follow → s.follow.phase = .tracking → s.follow.leader ≠ s.own →
    statusOf body = some p → s.agrees p → s.barrier = none → s.genOk →
    let f := s.follow.convert p.position
    f.owed.natAbs ≤ s.cfg.catchUp →
    let told := exec (.status s.follow.leader dest body) s
    let heard : State := { s with
      peers := s.peers.set s.follow.leader { s.peer s.follow.leader with status := some p } }
    let profile := a.work.profile
    let d : Side := if 0 < f.owed then .pos else .neg
    let count := match f.countBound with
      | none => f.owed.natAbs
      | some b => min f.owed.natAbs (b - f.followed)
    (f.owed = s.follow.owed → told = .next { heard with follow := f }) ∧
    (f.owed ≠ s.follow.owed → f.owed = 0 →
      told = .next { heard with
        gen := s.gen.ceased
        follow := if s.gen.run = none then f else { f with turning := none } }) ∧
    (∀ r, f.owed ≠ s.follow.owed → f.owed ≠ 0 → s.gen.run = some r → s.gen.dir = d →
      told = .next { heard with
        follow := f
        gen := { s.gen with
          phase := .flat
          dirHigh := match d with
            | .pos => !s.cfg.reversed
            | .neg => s.cfg.reversed
          run := some ⟨.flat, some count, 0, profile, profile.fs, r.baseRate, 0, false,
            r.baseRate⟩ } }) ∧
    (f.owed ≠ s.follow.owed → f.owed ≠ 0 → s.gen.run = none ∨ s.gen.dir ≠ d →
      let turn := s.gen.run ≠ none ∨ f.lastDir = some (opposite d)
      let rate := if turn then profile.fs else profile.ft
      let stepped := s.gen.stepped s.cfg d .flat rate
        ⟨.flat, some count, 1, profile, profile.fs, rate, 1, false, rate⟩
      let paid : Follow := { f with
        followed := f.counted, lastDir := some d
        owed := if 0 < f.owed then f.owed - 1 else f.owed + 1
        turning := if turn ∧ count ≠ 1 then some 1 else none }
      (s.limitActive d = true →
        ∃ t, told = .next t ∧ t.seq = s.seq.ended .faulted a.work.tag .faulted ∧
          t.gen = s.gen.ceased ∧ t.follow = .reset ∧
          t.faults = s.faults.record ⟨match d with | .pos => .limitPos | .neg => .limitNeg,
            s.link.cycle, some a.work.tag, s.gen.position⟩) ∧
      (s.limitActive d = false → s.cfg.followingWindow = 0 →
        (2 ≤ count → told = .next { heard with follow := paid, gen := stepped }) ∧
        (count = 1 → (∀ b, f.countBound = some b → f.counted < b) →
          told = .next { heard with follow := paid, gen := stepped.ceased }) ∧
        (count = 1 → f.countBound = some f.counted → a.faultEnded = false → s.noWork →
          told = .next { heard with
            seq := s.seq.ended .idle a.work.tag .done
            gen := stepped.ceased, homing := .reset, follow := .reset
            encoder := { s.encoder with settle := none } })))) ∧
  (∀ (s : State) (a : Active) (r : Run) (n : Nat), s.seq.active = some a → a.work.kind = .follow →
    s.cfg.followingWindow = 0 → s.gen.run = some r → r.count = some n → r.commitWatch = false →
    let position := match s.gen.dir with
      | .pos => s.gen.position + 1
      | .neg => s.gen.position - 1
    let owed := match s.gen.dir with
      | .pos => if 0 < s.follow.owed then s.follow.owed - 1 else s.follow.owed
      | .neg => if s.follow.owed < 0 then s.follow.owed + 1 else s.follow.owed
    let paid : Follow := { s.follow with
      followed := s.follow.counted, lastDir := some s.gen.dir, owed := owed, turning := none }
    let left := match s.follow.countBound with
      | none => owed.natAbs
      | some b => min owed.natAbs (b - s.follow.counted)
    (s.station = .running → s.follow.phase = .tracking → s.gen.phase = .flat → r.emitted + 1 < n →
      (s.follow.turning = none → exec .stepDue s = .next { s with
        follow := paid
        gen := { s.gen with
          rate := r.nextRate, position := position
          run := some { r with
            emitted := r.emitted + 1, baseSteps := r.baseSteps + 1, nextRate := r.baseRate } } }) ∧
      (s.follow.turning = some 1 → left ≠ 0 → exec .stepDue s = .next { s with
        follow := paid
        gen := s.gen.stepped s.cfg s.gen.dir .flat r.nextRate
          ⟨.flat, some left, 0, a.work.profile, a.work.profile.fs, a.work.profile.ft, 0, false,
            a.work.profile.ft⟩ })) ∧
    (s.station = .running ∨ s.station = .stopping → r.emitted + 1 = n →
      s.follow.turning = none ∨ left = 0 →
      (s.follow.countBound = some s.follow.counted → a.faultEnded = false → s.noWork →
        exec .stepDue s = .next { s with
          seq := s.seq.ended .idle a.work.tag .done
          gen := { s.gen.ceased with position := position }
          homing := .reset, follow := .reset
          encoder := { s.encoder with settle := none }, barrier := none }) ∧
      (s.station = .running → a.disposition = none →
        (∀ b, s.follow.countBound = some b → s.follow.counted < b) →
        exec .stepDue s = .next { s with
          follow := paid, gen := { s.gen.ceased with position := position } })))

/-! ### Invariants that every step keeps -/

/-- The queue never holds more than 16 entries, its INSERT entries in one run at the head (R9). A BOUND
mark stands on its head alone, and only while the running MOVE or GOTO has a bound successor; the commit
watch goes with a running MOVE or GOTO that does not brake (R8, R41, R44, R63). -/
def Obligations.QueueInvariantIsKept : Prop :=
  ∀ s t : State, step s = .next t → (s.queueOk → t.queueOk) ∧ (s.chainInv → t.chainInv)

/-- The residuals and the reserved place never take more than three places of the stack (R73, R79). -/
def Obligations.StackInvariantIsKept : Prop :=
  ∀ s t : State, s.stackOk → step s = .next t → t.stackOk

/-- The tables keep their lengths and the counters their widths (R16, R42, R81, R139, R174, R180,
R182). -/
def Obligations.TablesAndCountersAreKept : Prop :=
  ∀ s t : State, s.sizesOk → s.countersOk → step s = .next t → t.sizesOk ∧ t.countersOk

/-- An active record exists exactly in RUNNING, STOPPING and SETTLING, the generator moves only in
RUNNING and STOPPING, and the axis never steps toward an active limit (R25, R34, R54, R57, R133, R145,
R151). -/
def Obligations.MotionInvariantIsKept : Prop :=
  ∀ s t : State, s.motionInv → step s = .next t → t.motionInv

/-- A barrier record is in phase ARMED exactly while the station is ARMED, and in phase STARTED only with
an active record (R89, R92, R93). -/
def Obligations.BarrierInvariantIsKept : Prop :=
  ∀ s t : State, s.barrierInv → step s = .next t → t.barrierInv

/-- The parts of the Fault Log agree, and a station that is FAULTED or stopping for a fault has an
episode open (R182, R183). -/
def Obligations.FaultInvariantIsKept : Prop :=
  ∀ s t : State, s.faultInv → step s = .next t → t.faultInv

/-- Every invariant holds after reset. -/
def Obligations.InvariantsHoldAtReset : Prop :=
  State.reset.queueOk ∧ State.reset.stackOk ∧ State.reset.sizesOk ∧ State.reset.countersOk ∧
  State.reset.chainInv ∧ State.reset.motionInv ∧ State.reset.barrierInv ∧ State.reset.faultInv
end

