-- ==== Sys2Proof/Laws/State.lean ====
section
/-! SUPPORT. One lemma for each field under each update of the state, true by computation, so that no
proof unfolds a record update. -/

namespace Sys2Proof.Machine

variable (s : State)

/-! ### `State.setLoader` -/

@[simp] theorem State.setLoader_loader (x : Loader) : (s.setLoader x).loader = x := rfl
@[simp] theorem State.setLoader_link (x : Loader) : (s.setLoader x).link = s.link := rfl
@[simp] theorem State.setLoader_peers (x : Loader) : (s.setLoader x).peers = s.peers := rfl
@[simp] theorem State.setLoader_queue (x : Loader) : (s.setLoader x).queue = s.queue := rfl
@[simp] theorem State.setLoader_seq (x : Loader) : (s.setLoader x).seq = s.seq := rfl
@[simp] theorem State.setLoader_stack (x : Loader) : (s.setLoader x).stack = s.stack := rfl
@[simp] theorem State.setLoader_gen (x : Loader) : (s.setLoader x).gen = s.gen := rfl
@[simp] theorem State.setLoader_barrier (x : Loader) : (s.setLoader x).barrier = s.barrier := rfl
@[simp] theorem State.setLoader_groups (x : Loader) : (s.setLoader x).groups = s.groups := rfl
@[simp] theorem State.setLoader_homing (x : Loader) : (s.setLoader x).homing = s.homing := rfl
@[simp] theorem State.setLoader_follow (x : Loader) : (s.setLoader x).follow = s.follow := rfl
@[simp] theorem State.setLoader_drive (x : Loader) : (s.setLoader x).drive = s.drive := rfl
@[simp] theorem State.setLoader_encoder (x : Loader) : (s.setLoader x).encoder = s.encoder := rfl
@[simp] theorem State.setLoader_faults (x : Loader) : (s.setLoader x).faults = s.faults := rfl
@[simp] theorem State.setLoader_openCount (x : Loader) : (s.setLoader x).openCount = s.openCount := rfl
@[simp] theorem State.setLoader_restCount (x : Loader) : (s.setLoader x).restCount = s.restCount := rfl
@[simp] theorem State.setLoader_indexCount (x : Loader) : (s.setLoader x).indexCount = s.indexCount := rfl
@[simp] theorem State.setLoader_pending (x : Loader) : (s.setLoader x).pending = s.pending := rfl
@[simp] theorem State.setLoader_station (x : Loader) : (s.setLoader x).station = s.station := rfl

/-! ### `State.setLink` -/

@[simp] theorem State.setLink_loader (x : Link) : (s.setLink x).loader = s.loader := rfl
@[simp] theorem State.setLink_link (x : Link) : (s.setLink x).link = x := rfl
@[simp] theorem State.setLink_peers (x : Link) : (s.setLink x).peers = s.peers := rfl
@[simp] theorem State.setLink_queue (x : Link) : (s.setLink x).queue = s.queue := rfl
@[simp] theorem State.setLink_seq (x : Link) : (s.setLink x).seq = s.seq := rfl
@[simp] theorem State.setLink_stack (x : Link) : (s.setLink x).stack = s.stack := rfl
@[simp] theorem State.setLink_gen (x : Link) : (s.setLink x).gen = s.gen := rfl
@[simp] theorem State.setLink_barrier (x : Link) : (s.setLink x).barrier = s.barrier := rfl
@[simp] theorem State.setLink_groups (x : Link) : (s.setLink x).groups = s.groups := rfl
@[simp] theorem State.setLink_homing (x : Link) : (s.setLink x).homing = s.homing := rfl
@[simp] theorem State.setLink_follow (x : Link) : (s.setLink x).follow = s.follow := rfl
@[simp] theorem State.setLink_drive (x : Link) : (s.setLink x).drive = s.drive := rfl
@[simp] theorem State.setLink_encoder (x : Link) : (s.setLink x).encoder = s.encoder := rfl
@[simp] theorem State.setLink_faults (x : Link) : (s.setLink x).faults = s.faults := rfl
@[simp] theorem State.setLink_openCount (x : Link) : (s.setLink x).openCount = s.openCount := rfl
@[simp] theorem State.setLink_restCount (x : Link) : (s.setLink x).restCount = s.restCount := rfl
@[simp] theorem State.setLink_indexCount (x : Link) : (s.setLink x).indexCount = s.indexCount := rfl
@[simp] theorem State.setLink_pending (x : Link) : (s.setLink x).pending = s.pending := rfl
@[simp] theorem State.setLink_cfg (x : Link) : (s.setLink x).cfg = s.cfg := rfl
@[simp] theorem State.setLink_own (x : Link) : (s.setLink x).own = s.own := rfl
@[simp] theorem State.setLink_station (x : Link) : (s.setLink x).station = s.station := rfl

/-! ### `State.setPeers` -/

@[simp] theorem State.setPeers_loader (x : List PeerEntry) : (s.setPeers x).loader = s.loader := rfl
@[simp] theorem State.setPeers_link (x : List PeerEntry) : (s.setPeers x).link = s.link := rfl
@[simp] theorem State.setPeers_peers (x : List PeerEntry) : (s.setPeers x).peers = x := rfl
@[simp] theorem State.setPeers_queue (x : List PeerEntry) : (s.setPeers x).queue = s.queue := rfl
@[simp] theorem State.setPeers_seq (x : List PeerEntry) : (s.setPeers x).seq = s.seq := rfl
@[simp] theorem State.setPeers_stack (x : List PeerEntry) : (s.setPeers x).stack = s.stack := rfl
@[simp] theorem State.setPeers_gen (x : List PeerEntry) : (s.setPeers x).gen = s.gen := rfl
@[simp] theorem State.setPeers_barrier (x : List PeerEntry) : (s.setPeers x).barrier = s.barrier := rfl
@[simp] theorem State.setPeers_groups (x : List PeerEntry) : (s.setPeers x).groups = s.groups := rfl
@[simp] theorem State.setPeers_homing (x : List PeerEntry) : (s.setPeers x).homing = s.homing := rfl
@[simp] theorem State.setPeers_follow (x : List PeerEntry) : (s.setPeers x).follow = s.follow := rfl
@[simp] theorem State.setPeers_drive (x : List PeerEntry) : (s.setPeers x).drive = s.drive := rfl
@[simp] theorem State.setPeers_encoder (x : List PeerEntry) : (s.setPeers x).encoder = s.encoder := rfl
@[simp] theorem State.setPeers_faults (x : List PeerEntry) : (s.setPeers x).faults = s.faults := rfl
@[simp] theorem State.setPeers_openCount (x : List PeerEntry) : (s.setPeers x).openCount = s.openCount := rfl
@[simp] theorem State.setPeers_restCount (x : List PeerEntry) : (s.setPeers x).restCount = s.restCount := rfl
@[simp] theorem State.setPeers_indexCount (x : List PeerEntry) : (s.setPeers x).indexCount = s.indexCount := rfl
@[simp] theorem State.setPeers_pending (x : List PeerEntry) : (s.setPeers x).pending = s.pending := rfl
@[simp] theorem State.setPeers_cfg (x : List PeerEntry) : (s.setPeers x).cfg = s.cfg := rfl
@[simp] theorem State.setPeers_own (x : List PeerEntry) : (s.setPeers x).own = s.own := rfl
@[simp] theorem State.setPeers_station (x : List PeerEntry) : (s.setPeers x).station = s.station := rfl

/-! ### `State.setQueue` -/

@[simp] theorem State.setQueue_loader (x : SegQueue) : (s.setQueue x).loader = s.loader := rfl
@[simp] theorem State.setQueue_link (x : SegQueue) : (s.setQueue x).link = s.link := rfl
@[simp] theorem State.setQueue_peers (x : SegQueue) : (s.setQueue x).peers = s.peers := rfl
@[simp] theorem State.setQueue_queue (x : SegQueue) : (s.setQueue x).queue = x := rfl
@[simp] theorem State.setQueue_seq (x : SegQueue) : (s.setQueue x).seq = s.seq := rfl
@[simp] theorem State.setQueue_stack (x : SegQueue) : (s.setQueue x).stack = s.stack := rfl
@[simp] theorem State.setQueue_gen (x : SegQueue) : (s.setQueue x).gen = s.gen := rfl
@[simp] theorem State.setQueue_barrier (x : SegQueue) : (s.setQueue x).barrier = s.barrier := rfl
@[simp] theorem State.setQueue_groups (x : SegQueue) : (s.setQueue x).groups = s.groups := rfl
@[simp] theorem State.setQueue_homing (x : SegQueue) : (s.setQueue x).homing = s.homing := rfl
@[simp] theorem State.setQueue_follow (x : SegQueue) : (s.setQueue x).follow = s.follow := rfl
@[simp] theorem State.setQueue_drive (x : SegQueue) : (s.setQueue x).drive = s.drive := rfl
@[simp] theorem State.setQueue_encoder (x : SegQueue) : (s.setQueue x).encoder = s.encoder := rfl
@[simp] theorem State.setQueue_faults (x : SegQueue) : (s.setQueue x).faults = s.faults := rfl
@[simp] theorem State.setQueue_openCount (x : SegQueue) : (s.setQueue x).openCount = s.openCount := rfl
@[simp] theorem State.setQueue_restCount (x : SegQueue) : (s.setQueue x).restCount = s.restCount := rfl
@[simp] theorem State.setQueue_indexCount (x : SegQueue) : (s.setQueue x).indexCount = s.indexCount := rfl
@[simp] theorem State.setQueue_pending (x : SegQueue) : (s.setQueue x).pending = s.pending := rfl
@[simp] theorem State.setQueue_cfg (x : SegQueue) : (s.setQueue x).cfg = s.cfg := rfl
@[simp] theorem State.setQueue_own (x : SegQueue) : (s.setQueue x).own = s.own := rfl
@[simp] theorem State.setQueue_station (x : SegQueue) : (s.setQueue x).station = s.station := rfl

/-! ### `State.setSeq` -/

@[simp] theorem State.setSeq_loader (x : Sequencer) : (s.setSeq x).loader = s.loader := rfl
@[simp] theorem State.setSeq_link (x : Sequencer) : (s.setSeq x).link = s.link := rfl
@[simp] theorem State.setSeq_peers (x : Sequencer) : (s.setSeq x).peers = s.peers := rfl
@[simp] theorem State.setSeq_queue (x : Sequencer) : (s.setSeq x).queue = s.queue := rfl
@[simp] theorem State.setSeq_seq (x : Sequencer) : (s.setSeq x).seq = x := rfl
@[simp] theorem State.setSeq_stack (x : Sequencer) : (s.setSeq x).stack = s.stack := rfl
@[simp] theorem State.setSeq_gen (x : Sequencer) : (s.setSeq x).gen = s.gen := rfl
@[simp] theorem State.setSeq_barrier (x : Sequencer) : (s.setSeq x).barrier = s.barrier := rfl
@[simp] theorem State.setSeq_groups (x : Sequencer) : (s.setSeq x).groups = s.groups := rfl
@[simp] theorem State.setSeq_homing (x : Sequencer) : (s.setSeq x).homing = s.homing := rfl
@[simp] theorem State.setSeq_follow (x : Sequencer) : (s.setSeq x).follow = s.follow := rfl
@[simp] theorem State.setSeq_drive (x : Sequencer) : (s.setSeq x).drive = s.drive := rfl
@[simp] theorem State.setSeq_encoder (x : Sequencer) : (s.setSeq x).encoder = s.encoder := rfl
@[simp] theorem State.setSeq_faults (x : Sequencer) : (s.setSeq x).faults = s.faults := rfl
@[simp] theorem State.setSeq_openCount (x : Sequencer) : (s.setSeq x).openCount = s.openCount := rfl
@[simp] theorem State.setSeq_restCount (x : Sequencer) : (s.setSeq x).restCount = s.restCount := rfl
@[simp] theorem State.setSeq_indexCount (x : Sequencer) : (s.setSeq x).indexCount = s.indexCount := rfl
@[simp] theorem State.setSeq_pending (x : Sequencer) : (s.setSeq x).pending = s.pending := rfl
@[simp] theorem State.setSeq_cfg (x : Sequencer) : (s.setSeq x).cfg = s.cfg := rfl
@[simp] theorem State.setSeq_own (x : Sequencer) : (s.setSeq x).own = s.own := rfl

/-! ### `State.setStack` -/

@[simp] theorem State.setStack_loader (x : Suspension) : (s.setStack x).loader = s.loader := rfl
@[simp] theorem State.setStack_link (x : Suspension) : (s.setStack x).link = s.link := rfl
@[simp] theorem State.setStack_peers (x : Suspension) : (s.setStack x).peers = s.peers := rfl
@[simp] theorem State.setStack_queue (x : Suspension) : (s.setStack x).queue = s.queue := rfl
@[simp] theorem State.setStack_seq (x : Suspension) : (s.setStack x).seq = s.seq := rfl
@[simp] theorem State.setStack_stack (x : Suspension) : (s.setStack x).stack = x := rfl
@[simp] theorem State.setStack_gen (x : Suspension) : (s.setStack x).gen = s.gen := rfl
@[simp] theorem State.setStack_barrier (x : Suspension) : (s.setStack x).barrier = s.barrier := rfl
@[simp] theorem State.setStack_groups (x : Suspension) : (s.setStack x).groups = s.groups := rfl
@[simp] theorem State.setStack_homing (x : Suspension) : (s.setStack x).homing = s.homing := rfl
@[simp] theorem State.setStack_follow (x : Suspension) : (s.setStack x).follow = s.follow := rfl
@[simp] theorem State.setStack_drive (x : Suspension) : (s.setStack x).drive = s.drive := rfl
@[simp] theorem State.setStack_encoder (x : Suspension) : (s.setStack x).encoder = s.encoder := rfl
@[simp] theorem State.setStack_faults (x : Suspension) : (s.setStack x).faults = s.faults := rfl
@[simp] theorem State.setStack_openCount (x : Suspension) : (s.setStack x).openCount = s.openCount := rfl
@[simp] theorem State.setStack_restCount (x : Suspension) : (s.setStack x).restCount = s.restCount := rfl
@[simp] theorem State.setStack_indexCount (x : Suspension) : (s.setStack x).indexCount = s.indexCount := rfl
@[simp] theorem State.setStack_pending (x : Suspension) : (s.setStack x).pending = s.pending := rfl
@[simp] theorem State.setStack_cfg (x : Suspension) : (s.setStack x).cfg = s.cfg := rfl
@[simp] theorem State.setStack_own (x : Suspension) : (s.setStack x).own = s.own := rfl
@[simp] theorem State.setStack_station (x : Suspension) : (s.setStack x).station = s.station := rfl

/-! ### `State.setGen` -/

@[simp] theorem State.setGen_loader (x : Gen) : (s.setGen x).loader = s.loader := rfl
@[simp] theorem State.setGen_link (x : Gen) : (s.setGen x).link = s.link := rfl
@[simp] theorem State.setGen_peers (x : Gen) : (s.setGen x).peers = s.peers := rfl
@[simp] theorem State.setGen_queue (x : Gen) : (s.setGen x).queue = s.queue := rfl
@[simp] theorem State.setGen_seq (x : Gen) : (s.setGen x).seq = s.seq := rfl
@[simp] theorem State.setGen_stack (x : Gen) : (s.setGen x).stack = s.stack := rfl
@[simp] theorem State.setGen_gen (x : Gen) : (s.setGen x).gen = x := rfl
@[simp] theorem State.setGen_barrier (x : Gen) : (s.setGen x).barrier = s.barrier := rfl
@[simp] theorem State.setGen_groups (x : Gen) : (s.setGen x).groups = s.groups := rfl
@[simp] theorem State.setGen_homing (x : Gen) : (s.setGen x).homing = s.homing := rfl
@[simp] theorem State.setGen_follow (x : Gen) : (s.setGen x).follow = s.follow := rfl
@[simp] theorem State.setGen_drive (x : Gen) : (s.setGen x).drive = s.drive := rfl
@[simp] theorem State.setGen_encoder (x : Gen) : (s.setGen x).encoder = s.encoder := rfl
@[simp] theorem State.setGen_faults (x : Gen) : (s.setGen x).faults = s.faults := rfl
@[simp] theorem State.setGen_openCount (x : Gen) : (s.setGen x).openCount = s.openCount := rfl
@[simp] theorem State.setGen_restCount (x : Gen) : (s.setGen x).restCount = s.restCount := rfl
@[simp] theorem State.setGen_indexCount (x : Gen) : (s.setGen x).indexCount = s.indexCount := rfl
@[simp] theorem State.setGen_pending (x : Gen) : (s.setGen x).pending = s.pending := rfl
@[simp] theorem State.setGen_cfg (x : Gen) : (s.setGen x).cfg = s.cfg := rfl
@[simp] theorem State.setGen_own (x : Gen) : (s.setGen x).own = s.own := rfl
@[simp] theorem State.setGen_station (x : Gen) : (s.setGen x).station = s.station := rfl

/-! ### `State.setBarrier` -/

@[simp] theorem State.setBarrier_loader (x : Option BarrierRec) : (s.setBarrier x).loader = s.loader := rfl
@[simp] theorem State.setBarrier_link (x : Option BarrierRec) : (s.setBarrier x).link = s.link := rfl
@[simp] theorem State.setBarrier_peers (x : Option BarrierRec) : (s.setBarrier x).peers = s.peers := rfl
@[simp] theorem State.setBarrier_queue (x : Option BarrierRec) : (s.setBarrier x).queue = s.queue := rfl
@[simp] theorem State.setBarrier_seq (x : Option BarrierRec) : (s.setBarrier x).seq = s.seq := rfl
@[simp] theorem State.setBarrier_stack (x : Option BarrierRec) : (s.setBarrier x).stack = s.stack := rfl
@[simp] theorem State.setBarrier_gen (x : Option BarrierRec) : (s.setBarrier x).gen = s.gen := rfl
@[simp] theorem State.setBarrier_barrier (x : Option BarrierRec) : (s.setBarrier x).barrier = x := rfl
@[simp] theorem State.setBarrier_groups (x : Option BarrierRec) : (s.setBarrier x).groups = s.groups := rfl
@[simp] theorem State.setBarrier_homing (x : Option BarrierRec) : (s.setBarrier x).homing = s.homing := rfl
@[simp] theorem State.setBarrier_follow (x : Option BarrierRec) : (s.setBarrier x).follow = s.follow := rfl
@[simp] theorem State.setBarrier_drive (x : Option BarrierRec) : (s.setBarrier x).drive = s.drive := rfl
@[simp] theorem State.setBarrier_encoder (x : Option BarrierRec) : (s.setBarrier x).encoder = s.encoder := rfl
@[simp] theorem State.setBarrier_faults (x : Option BarrierRec) : (s.setBarrier x).faults = s.faults := rfl
@[simp] theorem State.setBarrier_openCount (x : Option BarrierRec) : (s.setBarrier x).openCount = s.openCount := rfl
@[simp] theorem State.setBarrier_restCount (x : Option BarrierRec) : (s.setBarrier x).restCount = s.restCount := rfl
@[simp] theorem State.setBarrier_indexCount (x : Option BarrierRec) : (s.setBarrier x).indexCount = s.indexCount := rfl
@[simp] theorem State.setBarrier_pending (x : Option BarrierRec) : (s.setBarrier x).pending = s.pending := rfl
@[simp] theorem State.setBarrier_cfg (x : Option BarrierRec) : (s.setBarrier x).cfg = s.cfg := rfl
@[simp] theorem State.setBarrier_own (x : Option BarrierRec) : (s.setBarrier x).own = s.own := rfl
@[simp] theorem State.setBarrier_station (x : Option BarrierRec) : (s.setBarrier x).station = s.station := rfl

/-! ### `State.setGroups` -/

@[simp] theorem State.setGroups_loader (x : List GroupEntry) : (s.setGroups x).loader = s.loader := rfl
@[simp] theorem State.setGroups_link (x : List GroupEntry) : (s.setGroups x).link = s.link := rfl
@[simp] theorem State.setGroups_peers (x : List GroupEntry) : (s.setGroups x).peers = s.peers := rfl
@[simp] theorem State.setGroups_queue (x : List GroupEntry) : (s.setGroups x).queue = s.queue := rfl
@[simp] theorem State.setGroups_seq (x : List GroupEntry) : (s.setGroups x).seq = s.seq := rfl
@[simp] theorem State.setGroups_stack (x : List GroupEntry) : (s.setGroups x).stack = s.stack := rfl
@[simp] theorem State.setGroups_gen (x : List GroupEntry) : (s.setGroups x).gen = s.gen := rfl
@[simp] theorem State.setGroups_barrier (x : List GroupEntry) : (s.setGroups x).barrier = s.barrier := rfl
@[simp] theorem State.setGroups_groups (x : List GroupEntry) : (s.setGroups x).groups = x := rfl
@[simp] theorem State.setGroups_homing (x : List GroupEntry) : (s.setGroups x).homing = s.homing := rfl
@[simp] theorem State.setGroups_follow (x : List GroupEntry) : (s.setGroups x).follow = s.follow := rfl
@[simp] theorem State.setGroups_drive (x : List GroupEntry) : (s.setGroups x).drive = s.drive := rfl
@[simp] theorem State.setGroups_encoder (x : List GroupEntry) : (s.setGroups x).encoder = s.encoder := rfl
@[simp] theorem State.setGroups_faults (x : List GroupEntry) : (s.setGroups x).faults = s.faults := rfl
@[simp] theorem State.setGroups_openCount (x : List GroupEntry) : (s.setGroups x).openCount = s.openCount := rfl
@[simp] theorem State.setGroups_restCount (x : List GroupEntry) : (s.setGroups x).restCount = s.restCount := rfl
@[simp] theorem State.setGroups_indexCount (x : List GroupEntry) : (s.setGroups x).indexCount = s.indexCount := rfl
@[simp] theorem State.setGroups_pending (x : List GroupEntry) : (s.setGroups x).pending = s.pending := rfl
@[simp] theorem State.setGroups_cfg (x : List GroupEntry) : (s.setGroups x).cfg = s.cfg := rfl
@[simp] theorem State.setGroups_own (x : List GroupEntry) : (s.setGroups x).own = s.own := rfl
@[simp] theorem State.setGroups_station (x : List GroupEntry) : (s.setGroups x).station = s.station := rfl

/-! ### `State.setHoming` -/

@[simp] theorem State.setHoming_loader (x : Homing) : (s.setHoming x).loader = s.loader := rfl
@[simp] theorem State.setHoming_link (x : Homing) : (s.setHoming x).link = s.link := rfl
@[simp] theorem State.setHoming_peers (x : Homing) : (s.setHoming x).peers = s.peers := rfl
@[simp] theorem State.setHoming_queue (x : Homing) : (s.setHoming x).queue = s.queue := rfl
@[simp] theorem State.setHoming_seq (x : Homing) : (s.setHoming x).seq = s.seq := rfl
@[simp] theorem State.setHoming_stack (x : Homing) : (s.setHoming x).stack = s.stack := rfl
@[simp] theorem State.setHoming_gen (x : Homing) : (s.setHoming x).gen = s.gen := rfl
@[simp] theorem State.setHoming_barrier (x : Homing) : (s.setHoming x).barrier = s.barrier := rfl
@[simp] theorem State.setHoming_groups (x : Homing) : (s.setHoming x).groups = s.groups := rfl
@[simp] theorem State.setHoming_homing (x : Homing) : (s.setHoming x).homing = x := rfl
@[simp] theorem State.setHoming_follow (x : Homing) : (s.setHoming x).follow = s.follow := rfl
@[simp] theorem State.setHoming_drive (x : Homing) : (s.setHoming x).drive = s.drive := rfl
@[simp] theorem State.setHoming_encoder (x : Homing) : (s.setHoming x).encoder = s.encoder := rfl
@[simp] theorem State.setHoming_faults (x : Homing) : (s.setHoming x).faults = s.faults := rfl
@[simp] theorem State.setHoming_openCount (x : Homing) : (s.setHoming x).openCount = s.openCount := rfl
@[simp] theorem State.setHoming_restCount (x : Homing) : (s.setHoming x).restCount = s.restCount := rfl
@[simp] theorem State.setHoming_indexCount (x : Homing) : (s.setHoming x).indexCount = s.indexCount := rfl
@[simp] theorem State.setHoming_pending (x : Homing) : (s.setHoming x).pending = s.pending := rfl
@[simp] theorem State.setHoming_cfg (x : Homing) : (s.setHoming x).cfg = s.cfg := rfl
@[simp] theorem State.setHoming_own (x : Homing) : (s.setHoming x).own = s.own := rfl
@[simp] theorem State.setHoming_station (x : Homing) : (s.setHoming x).station = s.station := rfl

/-! ### `State.setFollow` -/

@[simp] theorem State.setFollow_loader (x : Follow) : (s.setFollow x).loader = s.loader := rfl
@[simp] theorem State.setFollow_link (x : Follow) : (s.setFollow x).link = s.link := rfl
@[simp] theorem State.setFollow_peers (x : Follow) : (s.setFollow x).peers = s.peers := rfl
@[simp] theorem State.setFollow_queue (x : Follow) : (s.setFollow x).queue = s.queue := rfl
@[simp] theorem State.setFollow_seq (x : Follow) : (s.setFollow x).seq = s.seq := rfl
@[simp] theorem State.setFollow_stack (x : Follow) : (s.setFollow x).stack = s.stack := rfl
@[simp] theorem State.setFollow_gen (x : Follow) : (s.setFollow x).gen = s.gen := rfl
@[simp] theorem State.setFollow_barrier (x : Follow) : (s.setFollow x).barrier = s.barrier := rfl
@[simp] theorem State.setFollow_groups (x : Follow) : (s.setFollow x).groups = s.groups := rfl
@[simp] theorem State.setFollow_homing (x : Follow) : (s.setFollow x).homing = s.homing := rfl
@[simp] theorem State.setFollow_follow (x : Follow) : (s.setFollow x).follow = x := rfl
@[simp] theorem State.setFollow_drive (x : Follow) : (s.setFollow x).drive = s.drive := rfl
@[simp] theorem State.setFollow_encoder (x : Follow) : (s.setFollow x).encoder = s.encoder := rfl
@[simp] theorem State.setFollow_faults (x : Follow) : (s.setFollow x).faults = s.faults := rfl
@[simp] theorem State.setFollow_openCount (x : Follow) : (s.setFollow x).openCount = s.openCount := rfl
@[simp] theorem State.setFollow_restCount (x : Follow) : (s.setFollow x).restCount = s.restCount := rfl
@[simp] theorem State.setFollow_indexCount (x : Follow) : (s.setFollow x).indexCount = s.indexCount := rfl
@[simp] theorem State.setFollow_pending (x : Follow) : (s.setFollow x).pending = s.pending := rfl
@[simp] theorem State.setFollow_cfg (x : Follow) : (s.setFollow x).cfg = s.cfg := rfl
@[simp] theorem State.setFollow_own (x : Follow) : (s.setFollow x).own = s.own := rfl
@[simp] theorem State.setFollow_station (x : Follow) : (s.setFollow x).station = s.station := rfl

/-! ### `State.setDrive` -/

@[simp] theorem State.setDrive_loader (x : Drive) : (s.setDrive x).loader = s.loader := rfl
@[simp] theorem State.setDrive_link (x : Drive) : (s.setDrive x).link = s.link := rfl
@[simp] theorem State.setDrive_peers (x : Drive) : (s.setDrive x).peers = s.peers := rfl
@[simp] theorem State.setDrive_queue (x : Drive) : (s.setDrive x).queue = s.queue := rfl
@[simp] theorem State.setDrive_seq (x : Drive) : (s.setDrive x).seq = s.seq := rfl
@[simp] theorem State.setDrive_stack (x : Drive) : (s.setDrive x).stack = s.stack := rfl
@[simp] theorem State.setDrive_gen (x : Drive) : (s.setDrive x).gen = s.gen := rfl
@[simp] theorem State.setDrive_barrier (x : Drive) : (s.setDrive x).barrier = s.barrier := rfl
@[simp] theorem State.setDrive_groups (x : Drive) : (s.setDrive x).groups = s.groups := rfl
@[simp] theorem State.setDrive_homing (x : Drive) : (s.setDrive x).homing = s.homing := rfl
@[simp] theorem State.setDrive_follow (x : Drive) : (s.setDrive x).follow = s.follow := rfl
@[simp] theorem State.setDrive_drive (x : Drive) : (s.setDrive x).drive = x := rfl
@[simp] theorem State.setDrive_encoder (x : Drive) : (s.setDrive x).encoder = s.encoder := rfl
@[simp] theorem State.setDrive_faults (x : Drive) : (s.setDrive x).faults = s.faults := rfl
@[simp] theorem State.setDrive_openCount (x : Drive) : (s.setDrive x).openCount = s.openCount := rfl
@[simp] theorem State.setDrive_restCount (x : Drive) : (s.setDrive x).restCount = s.restCount := rfl
@[simp] theorem State.setDrive_indexCount (x : Drive) : (s.setDrive x).indexCount = s.indexCount := rfl
@[simp] theorem State.setDrive_pending (x : Drive) : (s.setDrive x).pending = s.pending := rfl
@[simp] theorem State.setDrive_cfg (x : Drive) : (s.setDrive x).cfg = s.cfg := rfl
@[simp] theorem State.setDrive_own (x : Drive) : (s.setDrive x).own = s.own := rfl
@[simp] theorem State.setDrive_station (x : Drive) : (s.setDrive x).station = s.station := rfl

/-! ### `State.setEncoder` -/

@[simp] theorem State.setEncoder_loader (x : Encoder) : (s.setEncoder x).loader = s.loader := rfl
@[simp] theorem State.setEncoder_link (x : Encoder) : (s.setEncoder x).link = s.link := rfl
@[simp] theorem State.setEncoder_peers (x : Encoder) : (s.setEncoder x).peers = s.peers := rfl
@[simp] theorem State.setEncoder_queue (x : Encoder) : (s.setEncoder x).queue = s.queue := rfl
@[simp] theorem State.setEncoder_seq (x : Encoder) : (s.setEncoder x).seq = s.seq := rfl
@[simp] theorem State.setEncoder_stack (x : Encoder) : (s.setEncoder x).stack = s.stack := rfl
@[simp] theorem State.setEncoder_gen (x : Encoder) : (s.setEncoder x).gen = s.gen := rfl
@[simp] theorem State.setEncoder_barrier (x : Encoder) : (s.setEncoder x).barrier = s.barrier := rfl
@[simp] theorem State.setEncoder_groups (x : Encoder) : (s.setEncoder x).groups = s.groups := rfl
@[simp] theorem State.setEncoder_homing (x : Encoder) : (s.setEncoder x).homing = s.homing := rfl
@[simp] theorem State.setEncoder_follow (x : Encoder) : (s.setEncoder x).follow = s.follow := rfl
@[simp] theorem State.setEncoder_drive (x : Encoder) : (s.setEncoder x).drive = s.drive := rfl
@[simp] theorem State.setEncoder_encoder (x : Encoder) : (s.setEncoder x).encoder = x := rfl
@[simp] theorem State.setEncoder_faults (x : Encoder) : (s.setEncoder x).faults = s.faults := rfl
@[simp] theorem State.setEncoder_openCount (x : Encoder) : (s.setEncoder x).openCount = s.openCount := rfl
@[simp] theorem State.setEncoder_restCount (x : Encoder) : (s.setEncoder x).restCount = s.restCount := rfl
@[simp] theorem State.setEncoder_indexCount (x : Encoder) : (s.setEncoder x).indexCount = s.indexCount := rfl
@[simp] theorem State.setEncoder_pending (x : Encoder) : (s.setEncoder x).pending = s.pending := rfl
@[simp] theorem State.setEncoder_cfg (x : Encoder) : (s.setEncoder x).cfg = s.cfg := rfl
@[simp] theorem State.setEncoder_own (x : Encoder) : (s.setEncoder x).own = s.own := rfl
@[simp] theorem State.setEncoder_station (x : Encoder) : (s.setEncoder x).station = s.station := rfl

/-! ### `State.setFaults` -/

@[simp] theorem State.setFaults_loader (x : FaultLog) : (s.setFaults x).loader = s.loader := rfl
@[simp] theorem State.setFaults_link (x : FaultLog) : (s.setFaults x).link = s.link := rfl
@[simp] theorem State.setFaults_peers (x : FaultLog) : (s.setFaults x).peers = s.peers := rfl
@[simp] theorem State.setFaults_queue (x : FaultLog) : (s.setFaults x).queue = s.queue := rfl
@[simp] theorem State.setFaults_seq (x : FaultLog) : (s.setFaults x).seq = s.seq := rfl
@[simp] theorem State.setFaults_stack (x : FaultLog) : (s.setFaults x).stack = s.stack := rfl
@[simp] theorem State.setFaults_gen (x : FaultLog) : (s.setFaults x).gen = s.gen := rfl
@[simp] theorem State.setFaults_barrier (x : FaultLog) : (s.setFaults x).barrier = s.barrier := rfl
@[simp] theorem State.setFaults_groups (x : FaultLog) : (s.setFaults x).groups = s.groups := rfl
@[simp] theorem State.setFaults_homing (x : FaultLog) : (s.setFaults x).homing = s.homing := rfl
@[simp] theorem State.setFaults_follow (x : FaultLog) : (s.setFaults x).follow = s.follow := rfl
@[simp] theorem State.setFaults_drive (x : FaultLog) : (s.setFaults x).drive = s.drive := rfl
@[simp] theorem State.setFaults_encoder (x : FaultLog) : (s.setFaults x).encoder = s.encoder := rfl
@[simp] theorem State.setFaults_faults (x : FaultLog) : (s.setFaults x).faults = x := rfl
@[simp] theorem State.setFaults_openCount (x : FaultLog) : (s.setFaults x).openCount = s.openCount := rfl
@[simp] theorem State.setFaults_restCount (x : FaultLog) : (s.setFaults x).restCount = s.restCount := rfl
@[simp] theorem State.setFaults_indexCount (x : FaultLog) : (s.setFaults x).indexCount = s.indexCount := rfl
@[simp] theorem State.setFaults_pending (x : FaultLog) : (s.setFaults x).pending = s.pending := rfl
@[simp] theorem State.setFaults_cfg (x : FaultLog) : (s.setFaults x).cfg = s.cfg := rfl
@[simp] theorem State.setFaults_own (x : FaultLog) : (s.setFaults x).own = s.own := rfl
@[simp] theorem State.setFaults_station (x : FaultLog) : (s.setFaults x).station = s.station := rfl

/-! ### `State.setOpenCount` -/

@[simp] theorem State.setOpenCount_loader (x : Nat) : (s.setOpenCount x).loader = s.loader := rfl
@[simp] theorem State.setOpenCount_link (x : Nat) : (s.setOpenCount x).link = s.link := rfl
@[simp] theorem State.setOpenCount_peers (x : Nat) : (s.setOpenCount x).peers = s.peers := rfl
@[simp] theorem State.setOpenCount_queue (x : Nat) : (s.setOpenCount x).queue = s.queue := rfl
@[simp] theorem State.setOpenCount_seq (x : Nat) : (s.setOpenCount x).seq = s.seq := rfl
@[simp] theorem State.setOpenCount_stack (x : Nat) : (s.setOpenCount x).stack = s.stack := rfl
@[simp] theorem State.setOpenCount_gen (x : Nat) : (s.setOpenCount x).gen = s.gen := rfl
@[simp] theorem State.setOpenCount_barrier (x : Nat) : (s.setOpenCount x).barrier = s.barrier := rfl
@[simp] theorem State.setOpenCount_groups (x : Nat) : (s.setOpenCount x).groups = s.groups := rfl
@[simp] theorem State.setOpenCount_homing (x : Nat) : (s.setOpenCount x).homing = s.homing := rfl
@[simp] theorem State.setOpenCount_follow (x : Nat) : (s.setOpenCount x).follow = s.follow := rfl
@[simp] theorem State.setOpenCount_drive (x : Nat) : (s.setOpenCount x).drive = s.drive := rfl
@[simp] theorem State.setOpenCount_encoder (x : Nat) : (s.setOpenCount x).encoder = s.encoder := rfl
@[simp] theorem State.setOpenCount_faults (x : Nat) : (s.setOpenCount x).faults = s.faults := rfl
@[simp] theorem State.setOpenCount_openCount (x : Nat) : (s.setOpenCount x).openCount = x := rfl
@[simp] theorem State.setOpenCount_restCount (x : Nat) : (s.setOpenCount x).restCount = s.restCount := rfl
@[simp] theorem State.setOpenCount_indexCount (x : Nat) : (s.setOpenCount x).indexCount = s.indexCount := rfl
@[simp] theorem State.setOpenCount_pending (x : Nat) : (s.setOpenCount x).pending = s.pending := rfl
@[simp] theorem State.setOpenCount_cfg (x : Nat) : (s.setOpenCount x).cfg = s.cfg := rfl
@[simp] theorem State.setOpenCount_own (x : Nat) : (s.setOpenCount x).own = s.own := rfl
@[simp] theorem State.setOpenCount_station (x : Nat) : (s.setOpenCount x).station = s.station := rfl

/-! ### `State.setRestCount` -/

@[simp] theorem State.setRestCount_loader (x : Nat) : (s.setRestCount x).loader = s.loader := rfl
@[simp] theorem State.setRestCount_link (x : Nat) : (s.setRestCount x).link = s.link := rfl
@[simp] theorem State.setRestCount_peers (x : Nat) : (s.setRestCount x).peers = s.peers := rfl
@[simp] theorem State.setRestCount_queue (x : Nat) : (s.setRestCount x).queue = s.queue := rfl
@[simp] theorem State.setRestCount_seq (x : Nat) : (s.setRestCount x).seq = s.seq := rfl
@[simp] theorem State.setRestCount_stack (x : Nat) : (s.setRestCount x).stack = s.stack := rfl
@[simp] theorem State.setRestCount_gen (x : Nat) : (s.setRestCount x).gen = s.gen := rfl
@[simp] theorem State.setRestCount_barrier (x : Nat) : (s.setRestCount x).barrier = s.barrier := rfl
@[simp] theorem State.setRestCount_groups (x : Nat) : (s.setRestCount x).groups = s.groups := rfl
@[simp] theorem State.setRestCount_homing (x : Nat) : (s.setRestCount x).homing = s.homing := rfl
@[simp] theorem State.setRestCount_follow (x : Nat) : (s.setRestCount x).follow = s.follow := rfl
@[simp] theorem State.setRestCount_drive (x : Nat) : (s.setRestCount x).drive = s.drive := rfl
@[simp] theorem State.setRestCount_encoder (x : Nat) : (s.setRestCount x).encoder = s.encoder := rfl
@[simp] theorem State.setRestCount_faults (x : Nat) : (s.setRestCount x).faults = s.faults := rfl
@[simp] theorem State.setRestCount_openCount (x : Nat) : (s.setRestCount x).openCount = s.openCount := rfl
@[simp] theorem State.setRestCount_restCount (x : Nat) : (s.setRestCount x).restCount = x := rfl
@[simp] theorem State.setRestCount_indexCount (x : Nat) : (s.setRestCount x).indexCount = s.indexCount := rfl
@[simp] theorem State.setRestCount_pending (x : Nat) : (s.setRestCount x).pending = s.pending := rfl
@[simp] theorem State.setRestCount_cfg (x : Nat) : (s.setRestCount x).cfg = s.cfg := rfl
@[simp] theorem State.setRestCount_own (x : Nat) : (s.setRestCount x).own = s.own := rfl
@[simp] theorem State.setRestCount_station (x : Nat) : (s.setRestCount x).station = s.station := rfl

/-! ### `State.setIndexCount` -/

@[simp] theorem State.setIndexCount_loader (x : Nat) : (s.setIndexCount x).loader = s.loader := rfl
@[simp] theorem State.setIndexCount_link (x : Nat) : (s.setIndexCount x).link = s.link := rfl
@[simp] theorem State.setIndexCount_peers (x : Nat) : (s.setIndexCount x).peers = s.peers := rfl
@[simp] theorem State.setIndexCount_queue (x : Nat) : (s.setIndexCount x).queue = s.queue := rfl
@[simp] theorem State.setIndexCount_seq (x : Nat) : (s.setIndexCount x).seq = s.seq := rfl
@[simp] theorem State.setIndexCount_stack (x : Nat) : (s.setIndexCount x).stack = s.stack := rfl
@[simp] theorem State.setIndexCount_gen (x : Nat) : (s.setIndexCount x).gen = s.gen := rfl
@[simp] theorem State.setIndexCount_barrier (x : Nat) : (s.setIndexCount x).barrier = s.barrier := rfl
@[simp] theorem State.setIndexCount_groups (x : Nat) : (s.setIndexCount x).groups = s.groups := rfl
@[simp] theorem State.setIndexCount_homing (x : Nat) : (s.setIndexCount x).homing = s.homing := rfl
@[simp] theorem State.setIndexCount_follow (x : Nat) : (s.setIndexCount x).follow = s.follow := rfl
@[simp] theorem State.setIndexCount_drive (x : Nat) : (s.setIndexCount x).drive = s.drive := rfl
@[simp] theorem State.setIndexCount_encoder (x : Nat) : (s.setIndexCount x).encoder = s.encoder := rfl
@[simp] theorem State.setIndexCount_faults (x : Nat) : (s.setIndexCount x).faults = s.faults := rfl
@[simp] theorem State.setIndexCount_openCount (x : Nat) : (s.setIndexCount x).openCount = s.openCount := rfl
@[simp] theorem State.setIndexCount_restCount (x : Nat) : (s.setIndexCount x).restCount = s.restCount := rfl
@[simp] theorem State.setIndexCount_indexCount (x : Nat) : (s.setIndexCount x).indexCount = x := rfl
@[simp] theorem State.setIndexCount_pending (x : Nat) : (s.setIndexCount x).pending = s.pending := rfl
@[simp] theorem State.setIndexCount_cfg (x : Nat) : (s.setIndexCount x).cfg = s.cfg := rfl
@[simp] theorem State.setIndexCount_own (x : Nat) : (s.setIndexCount x).own = s.own := rfl
@[simp] theorem State.setIndexCount_station (x : Nat) : (s.setIndexCount x).station = s.station := rfl

/-! ### `State.setPending` -/

@[simp] theorem State.setPending_loader (x : List Instr) : (s.setPending x).loader = s.loader := rfl
@[simp] theorem State.setPending_link (x : List Instr) : (s.setPending x).link = s.link := rfl
@[simp] theorem State.setPending_peers (x : List Instr) : (s.setPending x).peers = s.peers := rfl
@[simp] theorem State.setPending_queue (x : List Instr) : (s.setPending x).queue = s.queue := rfl
@[simp] theorem State.setPending_seq (x : List Instr) : (s.setPending x).seq = s.seq := rfl
@[simp] theorem State.setPending_stack (x : List Instr) : (s.setPending x).stack = s.stack := rfl
@[simp] theorem State.setPending_gen (x : List Instr) : (s.setPending x).gen = s.gen := rfl
@[simp] theorem State.setPending_barrier (x : List Instr) : (s.setPending x).barrier = s.barrier := rfl
@[simp] theorem State.setPending_groups (x : List Instr) : (s.setPending x).groups = s.groups := rfl
@[simp] theorem State.setPending_homing (x : List Instr) : (s.setPending x).homing = s.homing := rfl
@[simp] theorem State.setPending_follow (x : List Instr) : (s.setPending x).follow = s.follow := rfl
@[simp] theorem State.setPending_drive (x : List Instr) : (s.setPending x).drive = s.drive := rfl
@[simp] theorem State.setPending_encoder (x : List Instr) : (s.setPending x).encoder = s.encoder := rfl
@[simp] theorem State.setPending_faults (x : List Instr) : (s.setPending x).faults = s.faults := rfl
@[simp] theorem State.setPending_openCount (x : List Instr) : (s.setPending x).openCount = s.openCount := rfl
@[simp] theorem State.setPending_restCount (x : List Instr) : (s.setPending x).restCount = s.restCount := rfl
@[simp] theorem State.setPending_indexCount (x : List Instr) : (s.setPending x).indexCount = s.indexCount := rfl
@[simp] theorem State.setPending_pending (x : List Instr) : (s.setPending x).pending = x := rfl
@[simp] theorem State.setPending_cfg (x : List Instr) : (s.setPending x).cfg = s.cfg := rfl
@[simp] theorem State.setPending_own (x : List Instr) : (s.setPending x).own = s.own := rfl
@[simp] theorem State.setPending_station (x : List Instr) : (s.setPending x).station = s.station := rfl

/-! ### `State.setStation` and `State.setActive` -/

@[simp] theorem State.setSeq_station (x : Sequencer) : (s.setSeq x).station = x.station := rfl
@[simp] theorem State.setStation_station (x : Station) : (s.setStation x).station = x := rfl
@[simp] theorem State.setStation_seq (x : Station) :
    (s.setStation x).seq = { s.seq with station := x } := rfl
@[simp] theorem State.setActive_station (x : Option Active) :
    (s.setActive x).station = s.station := rfl
@[simp] theorem State.setActive_seq (x : Option Active) :
    (s.setActive x).seq = { s.seq with active := x } := rfl
@[simp] theorem State.setStation_loader (x : Station) : (s.setStation x).loader = s.loader := rfl
@[simp] theorem State.setActive_loader (x : Option Active) : (s.setActive x).loader = s.loader := rfl
@[simp] theorem State.setStation_link (x : Station) : (s.setStation x).link = s.link := rfl
@[simp] theorem State.setActive_link (x : Option Active) : (s.setActive x).link = s.link := rfl
@[simp] theorem State.setStation_peers (x : Station) : (s.setStation x).peers = s.peers := rfl
@[simp] theorem State.setActive_peers (x : Option Active) : (s.setActive x).peers = s.peers := rfl
@[simp] theorem State.setStation_queue (x : Station) : (s.setStation x).queue = s.queue := rfl
@[simp] theorem State.setActive_queue (x : Option Active) : (s.setActive x).queue = s.queue := rfl
@[simp] theorem State.setStation_stack (x : Station) : (s.setStation x).stack = s.stack := rfl
@[simp] theorem State.setActive_stack (x : Option Active) : (s.setActive x).stack = s.stack := rfl
@[simp] theorem State.setStation_gen (x : Station) : (s.setStation x).gen = s.gen := rfl
@[simp] theorem State.setActive_gen (x : Option Active) : (s.setActive x).gen = s.gen := rfl
@[simp] theorem State.setStation_barrier (x : Station) : (s.setStation x).barrier = s.barrier := rfl
@[simp] theorem State.setActive_barrier (x : Option Active) : (s.setActive x).barrier = s.barrier := rfl
@[simp] theorem State.setStation_groups (x : Station) : (s.setStation x).groups = s.groups := rfl
@[simp] theorem State.setActive_groups (x : Option Active) : (s.setActive x).groups = s.groups := rfl
@[simp] theorem State.setStation_homing (x : Station) : (s.setStation x).homing = s.homing := rfl
@[simp] theorem State.setActive_homing (x : Option Active) : (s.setActive x).homing = s.homing := rfl
@[simp] theorem State.setStation_follow (x : Station) : (s.setStation x).follow = s.follow := rfl
@[simp] theorem State.setActive_follow (x : Option Active) : (s.setActive x).follow = s.follow := rfl
@[simp] theorem State.setStation_drive (x : Station) : (s.setStation x).drive = s.drive := rfl
@[simp] theorem State.setActive_drive (x : Option Active) : (s.setActive x).drive = s.drive := rfl
@[simp] theorem State.setStation_encoder (x : Station) : (s.setStation x).encoder = s.encoder := rfl
@[simp] theorem State.setActive_encoder (x : Option Active) : (s.setActive x).encoder = s.encoder := rfl
@[simp] theorem State.setStation_faults (x : Station) : (s.setStation x).faults = s.faults := rfl
@[simp] theorem State.setActive_faults (x : Option Active) : (s.setActive x).faults = s.faults := rfl
@[simp] theorem State.setStation_openCount (x : Station) : (s.setStation x).openCount = s.openCount := rfl
@[simp] theorem State.setActive_openCount (x : Option Active) : (s.setActive x).openCount = s.openCount := rfl
@[simp] theorem State.setStation_restCount (x : Station) : (s.setStation x).restCount = s.restCount := rfl
@[simp] theorem State.setActive_restCount (x : Option Active) : (s.setActive x).restCount = s.restCount := rfl
@[simp] theorem State.setStation_indexCount (x : Station) : (s.setStation x).indexCount = s.indexCount := rfl
@[simp] theorem State.setActive_indexCount (x : Option Active) : (s.setActive x).indexCount = s.indexCount := rfl
@[simp] theorem State.setStation_pending (x : Station) : (s.setStation x).pending = s.pending := rfl
@[simp] theorem State.setActive_pending (x : Option Active) : (s.setActive x).pending = s.pending := rfl

end Sys2Proof.Machine
end

