-- ==== Sys2Proof/Laws/Frames.lean ====
section
/-! SUPPORT. The frame of the motion side: no operation of the sequencer, the generator, the barrier
and group units, the encoder's counting, homing, following or the fault path touches the loader, the
link, the Peer Table, the count of reports or the commands that wait. -/

namespace Sys2Proof.Machine

/-- What the motion side never touches. -/
def State.outside (s : State) : Loader × Link × List PeerEntry × Nat × List Instr :=
  (s.loader, s.link, s.peers, s.openCount, s.pending)

/-- Two states with the same outside agree on each part of it. -/
theorem outside_parts {s t : State} (h : t.outside = s.outside) :
    t.loader = s.loader ∧ t.link = s.link ∧ t.peers = s.peers ∧ t.openCount = s.openCount ∧
      t.pending = s.pending := by
  simpa [State.outside] using h

/-- A fold of operations that keep the outside keeps it. -/
theorem foldl_outside {α : Type} (f : State → α → State)
    (h : ∀ s a, (f s a).outside = s.outside) (l : List α) (s : State) :
    (l.foldl f s).outside = s.outside := by
  induction l generalizing s with
  | nil => rfl
  | cons a l ih => simp [ih, h]

@[simp] theorem State.setQueue_outside (s : State) (x : SegQueue) :
    (s.setQueue x).outside = s.outside := rfl
@[simp] theorem State.setSeq_outside (s : State) (x : Sequencer) :
    (s.setSeq x).outside = s.outside := rfl
@[simp] theorem State.setStack_outside (s : State) (x : Suspension) :
    (s.setStack x).outside = s.outside := rfl
@[simp] theorem State.setGen_outside (s : State) (x : Gen) :
    (s.setGen x).outside = s.outside := rfl
@[simp] theorem State.setBarrier_outside (s : State) (x : Option BarrierRec) :
    (s.setBarrier x).outside = s.outside := rfl
@[simp] theorem State.setGroups_outside (s : State) (x : List GroupEntry) :
    (s.setGroups x).outside = s.outside := rfl
@[simp] theorem State.setHoming_outside (s : State) (x : Homing) :
    (s.setHoming x).outside = s.outside := rfl
@[simp] theorem State.setFollow_outside (s : State) (x : Follow) :
    (s.setFollow x).outside = s.outside := rfl
@[simp] theorem State.setDrive_outside (s : State) (x : Drive) :
    (s.setDrive x).outside = s.outside := rfl
@[simp] theorem State.setEncoder_outside (s : State) (x : Encoder) :
    (s.setEncoder x).outside = s.outside := rfl
@[simp] theorem State.setFaults_outside (s : State) (x : FaultLog) :
    (s.setFaults x).outside = s.outside := rfl
@[simp] theorem State.setStation_outside (s : State) (x : Station) :
    (s.setStation x).outside = s.outside := rfl
@[simp] theorem State.setActive_outside (s : State) (x : Option Active) :
    (s.setActive x).outside = s.outside := rfl
@[simp] theorem State.setGroup_outside (s : State) (g : Nat) (x : GroupEntry) :
    (s.setGroup g x).outside = s.outside := by
  unfold State.setGroup; split <;> rfl

/-! ### Records -/

@[simp] theorem State.dropRecord_outside (s : State) :
    s.dropRecord.outside = s.outside := by
  simp [State.dropRecord]
@[simp] theorem State.endRecord_outside (s : State) (x : Result) :
    (s.endRecord x).outside = s.outside := by
  simp only [State.endRecord]; repeat' split
  all_goals simp
@[simp] theorem State.pushResidual_outside (s : State) (x : Residual) :
    (s.pushResidual x).outside = s.outside := by
  simp [State.pushResidual]
@[simp] theorem State.discardResidual_outside (s : State) (x : Result) :
    (s.discardResidual x).outside = s.outside := by
  simp [State.discardResidual]
@[simp] theorem State.reachStandstill_outside (s : State) :
    s.reachStandstill.outside = s.outside := by
  simp only [State.reachStandstill]; repeat' split
  all_goals simp
@[simp] theorem State.unbind_outside (s : State) :
    s.unbind.outside = s.outside := by
  simp [State.unbind]
@[simp] theorem State.ceaseFollow_outside (s : State) :
    s.ceaseFollow.outside = s.outside := by
  simp only [State.ceaseFollow]; repeat' split
  all_goals simp
@[simp] theorem State.stopMotion_outside (s : State) (b : Bool) :
    (s.stopMotion b).outside = s.outside := by
  simp only [State.stopMotion]; repeat' split
  all_goals simp
@[simp] theorem State.beginStop_outside (s : State) (d : Disposition) (b c : Bool) :
    (s.beginStop d b c).outside = s.outside := by
  simp only [State.beginStop]; repeat' split
  all_goals simp
@[simp] theorem State.stopForHalt_outside (s : State) :
    s.stopForHalt.outside = s.outside := by
  simp [State.stopForHalt]
@[simp] theorem State.settleTest_outside (s : State) :
    s.settleTest.outside = s.outside := by
  simp only [State.settleTest]; repeat' split
  all_goals simp
@[simp] theorem State.enterSettling_outside (s : State) :
    s.enterSettling.outside = s.outside := by
  simp [State.enterSettling]
@[simp] theorem State.completeWork_outside (s : State) :
    s.completeWork.outside = s.outside := by
  simp only [State.completeWork]; repeat' split
  all_goals simp

/-! ### FaultPath -/

@[simp] theorem State.raiseInTable_outside (s : State) (g : Nat) (c : Cause) (o : Nat) :
    (s.raiseInTable g c o).outside = s.outside := by
  simp [State.raiseInTable]
@[simp] theorem State.raiseInvolved_outside (s : State) (c : Cause) (o : Nat) :
    (s.raiseInvolved c o).outside = s.outside := by
  simp [State.raiseInvolved]
@[simp] theorem State.hearVector_outside (s : State) (p : PeerStatus) (a : Nat) :
    (s.hearVector p a).outside = s.outside := by
  simp [State.hearVector]
@[simp] theorem State.faultWhileStopping_outside (s : State) (b : Bool) :
    (s.faultWhileStopping b).outside = s.outside := by
  simp only [State.faultWhileStopping]; repeat' split
  all_goals simp
@[simp] theorem State.faultStation_outside (s : State) (b : Bool) :
    (s.faultStation b).outside = s.outside := by
  simp only [State.faultStation]; repeat' split
  all_goals simp
@[simp] theorem State.clearHomedFor_outside (s : State) (k : FaultKind) :
    (s.clearHomedFor k).outside = s.outside := by
  simp only [State.clearHomedFor]; repeat' split
  all_goals simp
@[simp] theorem State.startPulse_outside (s : State) :
    s.startPulse.outside = s.outside := by
  simp only [State.startPulse]; repeat' split
  all_goals simp
@[simp] theorem State.pulseFor_outside (s : State) (k : FaultKind) :
    (s.pulseFor k).outside = s.outside := by
  simp only [State.pulseFor]; repeat' split
  all_goals simp
@[simp] theorem State.logFault_outside (s : State) (k : FaultKind) (x : Option Tag) :
    (s.logFault k x).outside = s.outside := by
  simp [State.logFault]
@[simp] theorem State.recordFault_outside (s : State) (k : FaultKind) (x : Option Tag) :
    (s.recordFault k x).outside = s.outside := by
  simp only [State.recordFault]; repeat' split
  all_goals simp
@[simp] theorem State.faultOfActive_outside (s : State) (k : FaultKind) :
    (s.faultOfActive k).outside = s.outside := by
  simp [State.faultOfActive]
@[simp] theorem State.checkFollowing_outside (s t : State) : (s.checkFollowing t).outside = t.outside := by
  unfold State.checkFollowing; split <;> simp
@[simp] theorem State.levelTests_outside (s : State) :
    s.levelTests.outside = s.outside := by
  simp only [State.levelTests]; repeat' split
  all_goals simp

/-! ### Emission -/

@[simp] theorem State.followStep_outside (s : State) :
    s.followStep.outside = s.outside := by
  simp only [State.followStep]; repeat' split
  all_goals simp
@[simp] theorem State.homingStep_outside (s : State) :
    s.homingStep.outside = s.outside := by
  simp [State.homingStep]
@[simp] theorem State.reportStep_outside (s : State) :
    s.reportStep.outside = s.outside := by
  simp only [State.reportStep]; repeat' split
  all_goals simp
@[simp] theorem State.emitStep_outside (s : State) :
    s.emitStep.outside = s.outside := by
  simp only [State.emitStep]; repeat' split
  all_goals simp
@[simp] theorem State.scheduleNext_outside (s : State) :
    s.scheduleNext.outside = s.outside := by
  simp [State.scheduleNext]
@[simp] theorem State.firstStep_outside (s : State) :
    s.firstStep.outside = s.outside := by
  simp [State.firstStep]

/-! ### Counting -/

@[simp] theorem State.setRestCount_outside (s : State) (n : Nat) :
    (s.setRestCount n).outside = s.outside := rfl
@[simp] theorem State.countEdge_outside (s : State) (d : Side) :
    (s.countEdge d).outside = s.outside := by
  simp only [State.countEdge]; split <;> simp
@[simp] theorem State.countEdges_outside (s : State) (l : List Side) :
    (s.countEdges l).outside = s.outside := foldl_outside _ (fun u d => u.countEdge_outside d) l s
@[simp] theorem State.takePair_outside (s : State) (a b : Bool) :
    (s.takePair a b).outside = s.outside := rfl
@[simp] theorem State.pairChange_outside (s : State) (a b : Bool) :
    (s.pairChange a b).outside = s.outside := by
  simp only [State.pairChange]; split <;> simp
@[simp] theorem State.pairBecomes_outside (s : State) (p : Bool × Bool) :
    (s.pairBecomes p).outside = s.outside := by
  simp only [State.pairBecomes]; split <;> simp
@[simp] theorem State.comeToRest_outside (s : State) :
    s.comeToRest.outside = s.outside := by
  simpa [State.comeToRest] using
    foldl_outside _ (fun u p => u.pairBecomes_outside p) _ (s.setRestCount (s.restCount + 1))
@[simp] theorem State.setIndexCount_outside (s : State) (n : Nat) :
    (s.setIndexCount n).outside = s.outside := rfl
@[simp] theorem State.idles_outside (s : State) : s.idles.outside = s.outside := by
  simp only [State.idles]; split <;> simp

/-! ### Homing -/

@[simp] theorem State.failHoming_outside (s : State) :
    s.failHoming.outside = s.outside := by
  simp [State.failHoming]
@[simp] theorem State.setPhase_outside (s : State) (p : HomingPhase) :
    (s.setPhase p).outside = s.outside := by
  simp [State.setPhase]
@[simp] theorem State.ending_outside (s : State) :
    s.ending.outside = s.outside := by
  simp [State.ending]
@[simp] theorem State.seekRun_outside (s : State) (d : Side) :
    (s.seekRun d).outside = s.outside := by
  simp [State.seekRun]
@[simp] theorem State.creepRun_outside (s : State) :
    s.creepRun.outside = s.outside := by
  simp [State.creepRun]
@[simp] theorem State.enterAway_outside (s : State) (p : HomingPhase) :
    (s.enterAway p).outside = s.outside := by
  simp only [State.enterAway]; repeat' split
  all_goals simp
@[simp] theorem State.enterSeek_outside (s : State) :
    s.enterSeek.outside = s.outside := by
  simp only [State.enterSeek]; repeat' split
  all_goals simp
@[simp] theorem State.writePositions_outside (s : State) (p : Position) :
    (s.writePositions p).outside = s.outside := by
  simp [State.writePositions]
@[simp] theorem State.completeHoming_outside (s : State) :
    s.completeHoming.outside = s.outside := by
  simp only [State.completeHoming]; split <;> simp
@[simp] theorem State.enterIndexMoving_outside (s : State) :
    s.enterIndexMoving.outside = s.outside := by
  simp only [State.enterIndexMoving]; repeat' split
  all_goals simp
@[simp] theorem State.enterIndexStanding_outside (s : State) :
    s.enterIndexStanding.outside = s.outside := by
  simp only [State.enterIndexStanding]; repeat' split
  all_goals simp
@[simp] theorem State.enterApproach_outside (s : State) :
    s.enterApproach.outside = s.outside := by
  simp only [State.enterApproach]; repeat' split
  all_goals simp
@[simp] theorem State.phaseEnd_outside (s : State) :
    s.phaseEnd.outside = s.outside := by
  simp only [State.phaseEnd]; repeat' split
  all_goals simp
@[simp] theorem State.phaseBrake_outside (s : State) :
    s.phaseBrake.outside = s.outside := by
  simp only [State.phaseBrake]; repeat' split
  all_goals simp
@[simp] theorem State.clearance_outside (s : State) :
    s.clearance.outside = s.outside := by
  simp only [State.clearance]; repeat' split
  all_goals simp
@[simp] theorem State.startHoming_outside (s : State) (d : Side) (n : Nat) (p : Position) (b : Option Nat) :
    (s.startHoming d n p b).outside = s.outside := by
  simp only [State.startHoming]; repeat' split
  all_goals simp
@[simp] theorem State.homeActive_outside (s : State) :
    s.homeActive.outside = s.outside := by
  simp only [State.homeActive]; repeat' split
  all_goals simp
@[simp] theorem State.homeInactive_outside (s : State) :
    s.homeInactive.outside = s.outside := by
  simp only [State.homeInactive]; repeat' split
  all_goals simp
@[simp] theorem State.homingLimit_outside (s : State) (d : Side) :
    (s.homingLimit d).outside = s.outside := by
  simp only [State.homingLimit]; repeat' split
  all_goals simp
@[simp] theorem State.judgeHomingLimit_outside (s : State) (d : Side) :
    (s.judgeHomingLimit d).outside = s.outside := by
  simp only [State.judgeHomingLimit]; repeat' split
  all_goals simp
@[simp] theorem State.countIndex_outside (s : State) :
    s.countIndex.outside = s.outside := by
  simp only [State.countIndex]; repeat' split
  all_goals simp

/-! ### Following -/

@[simp] theorem State.startFollow_outside (s : State) (l : Nat) (n : Int) (d : Nat) (b : Option Nat) :
    (s.startFollow l n d b).outside = s.outside := by
  simp [State.startFollow]
@[simp] theorem State.failFollow_outside (s : State) (k : FaultKind) :
    (s.failFollow k).outside = s.outside := by
  simp [State.failFollow]
@[simp] theorem State.orderPayment_outside (s : State) (d : Side) (r : Nat) :
    (s.orderPayment d r).outside = s.outside := by
  simp [State.orderPayment]
@[simp] theorem State.paymentEnd_outside (s : State) :
    s.paymentEnd.outside = s.outside := by
  simp only [State.paymentEnd]; repeat' split
  all_goals simp
@[simp] theorem State.payFirst_outside (s : State) :
    s.payFirst.outside = s.outside := by
  simp only [State.payFirst]; repeat' split
  all_goals simp
@[simp] theorem State.beginPayment_outside (s : State) (d : Side) (r : Nat) (x : Option Nat) :
    (s.beginPayment d r x).outside = s.outside := by
  simp only [State.beginPayment]; repeat' split
  all_goals simp
@[simp] theorem State.turn_outside (s : State) (d : Side) :
    (s.turn d).outside = s.outside := by
  simp [State.turn]
@[simp] theorem State.stopPaying_outside (s : State) :
    s.stopPaying.outside = s.outside := by
  simp [State.stopPaying]
@[simp] theorem State.pay_outside (s : State) :
    s.pay.outside = s.outside := by
  simp only [State.pay]; repeat' split
  all_goals simp
@[simp] theorem State.convertLeader_outside (s : State) (p : Position) :
    (s.convertLeader p).outside = s.outside := by
  simp only [State.convertLeader]; repeat' split
  all_goals simp
@[simp] theorem State.loseLeader_outside (s : State) :
    s.loseLeader.outside = s.outside := by
  simp [State.loseLeader]
@[simp] theorem State.checkLeader_outside (s : State) :
    s.checkLeader.outside = s.outside := by
  simp only [State.checkLeader]; repeat' split
  all_goals simp

/-! ### Running -/

@[simp] theorem State.commitPoint_outside (s : State) :
    s.commitPoint.outside = s.outside := by
  simp only [State.commitPoint]; repeat' split
  all_goals simp
@[simp] theorem State.formRecord_outside (s : State) (w : Work) :
    (s.formRecord w).outside = s.outside := by
  simp [State.formRecord]
@[simp] theorem State.orderRun_outside (s : State) (w : Work) (n : Int) (f : Nat) :
    (s.orderRun w n f).outside = s.outside := by
  simp only [State.orderRun]; repeat' split
  all_goals simp
@[simp] theorem State.startChained_outside (s : State) (w : Work) (f : Nat) :
    (s.startChained w f).outside = s.outside := by
  simp only [State.startChained]; repeat' split
  all_goals simp
@[simp] theorem State.handover_outside (s : State) (f : Nat) :
    (s.handover f).outside = s.outside := by
  simp only [State.handover]; repeat' split
  all_goals simp
@[simp] theorem State.lastCounted_outside (s : State) (a : Active) (r : Run) :
    (s.lastCounted a r).outside = s.outside := by
  simp only [State.lastCounted]; repeat' split
  all_goals simp
@[simp] theorem State.lastPayment_outside (s : State) (a : Active) :
    (s.lastPayment a).outside = s.outside := by
  simp only [State.lastPayment]; repeat' split
  all_goals simp
@[simp] theorem State.lastClearance_outside (s : State) :
    s.lastClearance.outside = s.outside := by
  simp only [State.lastClearance]; repeat' split
  all_goals simp
@[simp] theorem State.lastStep_outside (s : State) (r : Run) :
    (s.lastStep r).outside = s.outside := by
  simp only [State.lastStep]; repeat' split
  all_goals simp
@[simp] theorem State.standstill_outside (s : State) :
    s.standstill.outside = s.outside := by
  simp only [State.standstill]; repeat' split
  all_goals simp
@[simp] theorem State.afterStep_outside (s : State) :
    s.afterStep.outside = s.outside := by
  simp only [State.afterStep]; repeat' split
  all_goals simp
@[simp] theorem State.stepRun_outside (s : State) :
    s.stepRun.outside = s.outside := by
  simp [State.stepRun]
@[simp] theorem State.startCounted_outside (s : State) (w : Work) :
    (s.startCounted w).outside = s.outside := by
  simp only [State.startCounted]; repeat' split
  all_goals simp
@[simp] theorem State.startDwell_outside (s : State) (n : Nat) :
    (s.startDwell n).outside = s.outside := by
  simp [State.startDwell]
@[simp] theorem State.handWork_outside (s : State) (w : Work) :
    (s.handWork w).outside = s.outside := by
  simp only [State.handWork]; repeat' split
  all_goals simp
@[simp] theorem State.takeCandidate_outside (s : State) (x : Source) :
    (s.takeCandidate x).outside = s.outside := by
  simp only [State.takeCandidate]; repeat' split
  all_goals simp
@[simp] theorem State.startCandidate_outside (s : State) (x : Source) (w : Work) :
    (s.startCandidate x w).outside = s.outside := by
  simp only [State.startCandidate]; repeat' split
  all_goals simp

/-! ### Barrier -/

@[simp] theorem State.computeStart_outside (s : State) (b : BarrierRec) (l : List Cycle) :
    (s.computeStart b l).outside = s.outside := by
  simp only [State.computeStart]; repeat' split
  all_goals simp
@[simp] theorem State.readMembers_outside (s : State) :
    s.readMembers.outside = s.outside := by
  simp only [State.readMembers]; repeat' split
  all_goals simp
@[simp] theorem State.cancelArming_outside (s : State) :
    s.cancelArming.outside = s.outside := by
  simp [State.cancelArming]
@[simp] theorem State.arm_outside (s : State) (g : Nat) (k : BarrierBlock) :
    (s.arm g k).outside = s.outside := by
  simp only [State.arm]; split
  · simp
  · rw [State.cancelArming_outside, foldl_outside _ (fun u m => u.raiseInTable_outside g .peerLost m)]
    simp
@[simp] theorem State.rearmForEpoch_outside (s : State) (b : BarrierRec) :
    (s.rearmForEpoch b).outside = s.outside := by
  simp [State.rearmForEpoch]
@[simp] theorem State.rearmForSlip_outside (s : State) (b : BarrierRec) :
    (s.rearmForSlip b).outside = s.outside := by
  simp [State.rearmForSlip]
@[simp] theorem State.readStatusOf_outside (s : State) (a : Nat) :
    (s.readStatusOf a).outside = s.outside := by
  simp only [State.readStatusOf]; repeat' split
  all_goals simp
@[simp] theorem State.checkWait_outside (s : State) :
    s.checkWait.outside = s.outside := by
  simp only [State.checkWait]; repeat' split
  all_goals simp
@[simp] theorem State.countWait_outside (s : State) :
    s.countWait.outside = s.outside := by
  simp only [State.countWait]; repeat' split
  all_goals simp

/-! ### Dispatching -/

@[simp] theorem State.dispatchOnce_outside (s : State) :
    s.dispatchOnce.outside = s.outside := by
  simp only [State.dispatchOnce]; repeat' split
  all_goals simp
@[simp] theorem State.dispatchRounds_outside (n : Nat) (s : State) :
    (State.dispatchRounds n s).outside = s.outside := by
  induction n generalizing s with
  | zero => rfl
  | succ n ih => unfold State.dispatchRounds; split <;> simp [ih]
@[simp] theorem State.dispatch_outside (s : State) :
    s.dispatch.outside = s.outside := by
  simp only [State.dispatch]; repeat' split
  all_goals simp
@[simp] theorem State.enterIdle_outside (s t : State) : (s.enterIdle t).outside = t.outside := by
  unfold State.enterIdle; split <;> simp

/-! ### Notices -/

@[simp] theorem State.groupBecameHalted_outside (s : State) (g : Nat) :
    (s.groupBecameHalted g).outside = s.outside := by
  simp only [State.groupBecameHalted]; repeat' split
  all_goals simp
@[simp] theorem State.groupBecameClear_outside (s : State) (g : Nat) :
    (s.groupBecameClear g).outside = s.outside := by
  simp only [State.groupBecameClear]; repeat' split
  all_goals simp
@[simp] theorem State.groupChanged_outside (s : State) (g : Nat) :
    (s.groupChanged g).outside = s.outside := by
  simp only [State.groupChanged]; repeat' split
  all_goals simp
@[simp] theorem State.tellChanges_outside (s t : State) : (s.tellChanges t).outside = t.outside := by
  unfold State.tellChanges
  exact foldl_outside _ (fun u g => u.groupChanged_outside g) _ t
@[simp] theorem State.raiseHalt_outside (s : State) (g : Nat) (c : Cause) (o : Nat) :
    (s.raiseHalt g c o).outside = s.outside := by
  simp [State.raiseHalt]
@[simp] theorem State.adopt_outside (s : State) (p : PeerStatus) (a : Nat) :
    (s.adopt p a).outside = s.outside := by
  simp [State.adopt]
@[simp] theorem State.releaseGroup_outside (s : State) (g : Nat) (e : Epoch) (a : Nat) :
    (s.releaseGroup g e a).outside = s.outside := by
  simp [State.releaseGroup]
@[simp] theorem State.join_outside (s : State) :
    s.join.outside = s.outside := by
  simp [State.join]
@[simp] theorem State.memberLost_outside (s : State) (a : Nat) :
    (s.memberLost a).outside = s.outside := by
  simp only [State.memberLost]; repeat' split
  all_goals simp
@[simp] theorem State.followerLost_outside (s : State) (a : Nat) :
    (s.followerLost a).outside = s.outside := by
  simp only [State.followerLost]; repeat' split
  all_goals simp
@[simp] theorem State.startBarrier_outside (s : State) :
    s.startBarrier.outside = s.outside := by
  simp only [State.startBarrier]; repeat' split
  all_goals simp
@[simp] theorem State.checkStart_outside (s : State) :
    s.checkStart.outside = s.outside := by
  simp only [State.checkStart]; repeat' split
  all_goals simp
@[simp] theorem State.checkDwell_outside (s : State) :
    s.checkDwell.outside = s.outside := by
  simp only [State.checkDwell]; repeat' split
  all_goals simp
@[simp] theorem State.checkSettle_outside (s : State) :
    s.checkSettle.outside = s.outside := by
  simp only [State.checkSettle]; repeat' split
  all_goals simp
@[simp] theorem State.countSettle_outside (s : State) :
    s.countSettle.outside = s.outside := by
  simp [State.countSettle]
@[simp] theorem State.countSilence_outside (s : State) :
    s.countSilence.outside = s.outside := by
  simp [State.countSilence]
@[simp] theorem State.slipBarrier_outside (s : State) :
    s.slipBarrier.outside = s.outside := by
  simp only [State.slipBarrier]; repeat' split
  all_goals simp
@[simp] theorem State.markBarrier_outside (s : State) (b : Bool) :
    (s.markBarrier b).outside = s.outside := by
  simp only [State.markBarrier]; repeat' split
  all_goals simp
@[simp] theorem State.markDwell_outside (s : State) (b : Bool) :
    (s.markDwell b).outside = s.outside := by
  simp only [State.markDwell]; repeat' split
  all_goals simp

end Sys2Proof.Machine
end

