-- ==== Sys2Proof/Laws/Operands.lean ====
section
/-! SUPPORT. What the operand operations compute, said once: the whole root is the root of the library,
a quotient rounded up, saturating counts, byte fields read back as written, and masks. -/

namespace Sys2Proof.Machine

/-! ### Exact arithmetic -/

/-- The bit-by-bit root keeps the root of the library between what it has found and what is left. -/
theorem isqrtBits_eq (k n r : Nat) (hr : r * r ≤ n) (hk : n < (r + 2 ^ k) * (r + 2 ^ k)) :
    isqrtBits k n r = Nat.sqrt n := by
  induction k generalizing r with
  | zero =>
    rw [isqrtBits]
    exact (Nat.eq_sqrt).2 ⟨hr, by simpa using hk⟩
  | succ k ih =>
    unfold isqrtBits
    split
    · refine ih _ ‹_› ?_
      have : r + 2 ^ k + 2 ^ k = r + 2 ^ (k + 1) := by rw [Nat.pow_succ]; omega
      rwa [this]
    · exact ih _ hr (by omega)

/-- The root of chapter 3 is the square root rounded down. -/
theorem isqrt_eq_sqrt (n : Nat) : isqrt n = Nat.sqrt n := by
  refine isqrtBits_eq _ n 0 (by simp) ?_
  have h : n < 2 ^ (n.log2 + 1) := Nat.lt_log2_self
  have e : (2 : Nat) ^ (n.log2 + 1) ≤ 2 ^ (n.log2 / 2 + 1) * 2 ^ (n.log2 / 2 + 1) := by
    rw [← Nat.pow_add]
    exact Nat.pow_le_pow_right (by decide) (by omega)
  simpa using lt_of_lt_of_le h e

/-- A quotient rounded up, as the braking distance of R62 writes it. -/
theorem ceilDiv_eq (n d : Nat) (h : 0 < d) : ceilDiv n d = (n + d - 1) / d := by
  unfold ceilDiv; congr 1; omega

/-- A saturating count stays within its width. -/
theorem satSucc_le (max n : Nat) (h : n ≤ max) : satSucc max n ≤ max := by
  unfold satSucc; split <;> omega

/-! ### Byte order -/

@[simp] theorem leBytes_length (k n : Nat) : (leBytes k n).length = k := by
  induction k generalizing n with
  | zero => rfl
  | succ k ih => simp [leBytes, ih]

/-- A field is read back as it was written, as far as its bytes go. -/
theorem leNat_leBytes (k n : Nat) : leNat (leBytes k n) = n % 256 ^ k := by
  induction k generalizing n with
  | zero => simp [leBytes, leNat, Nat.mod_one]
  | succ k ih => simp [leBytes, leNat, ih, Nat.pow_succ', Nat.mod_mul]

/-! ### Masks -/

theorem mem_members (m : Mask) (k : Nat) : k ∈ members m ↔ k < 32 ∧ m.getLsbD k = true := by
  simp [members, member]

/-! ### The order of numbers that wrap (R1) -/

theorem later8_iff (a b : BitVec 8) : later8 a b = true ↔ 1 ≤ (a - b).toNat ∧ (a - b).toNat ≤ 127 := by
  unfold later8; rw [decide_eq_true_iff]; rfl

theorem not_later8_self (a : BitVec 8) : later8 a a = false := by
  simp [later8, dist8]

end Sys2Proof.Machine
end

