-- ==== Sys2Proof/Laws/Ops.lean ====
section
/-! SUPPORT. What each shared operation can do, said once: refusals, the group claims, the Fault Log, the
end of a record, a stop of the generator, the counting of edges, the choice of dispatch and its gates. -/

namespace Sys2Proof.Machine

/-! ### Taking a message -/

/-- A message is taken exactly when it is addressed to a JOINED station (R171). -/
theorem State.takes_iff (s : State) (dest : Byte) : s.takes dest = true ↔ s.addressed dest := by
  unfold State.takes State.addressed
  rw [Bool.and_eq_true, Bool.or_eq_true, decide_eq_true_iff, decide_eq_true_iff, decide_eq_true_iff]
  rfl

/-- A refusal writes the last-refusal record and nothing else (R16). -/
theorem State.refuse_eq (s : State) (k : MsgKind) (t : Option Tag) (r : Reason) :
    s.refuse k t r = { s with queue := s.queue.refused k t r } := rfl

/-! ### Groups -/

/-- Raising a halt leaves a HALTED entry and moves a CLEAR one to the next epoch (R114). -/
theorem GroupEntry.raise_cases (x : GroupEntry) (c : Cause) (o : Nat) (n : Cycle) :
    (x.condition = .halted ∧ x.raise c o n = x) ∨
    (x.condition = .clear ∧ x.raise c o n = ⟨x.epoch + 1, .halted, true, c, some o, n⟩) := by
  unfold GroupEntry.raise; split
  · exact .inl ⟨‹_›, rfl⟩
  · exact .inr ⟨‹_›, rfl⟩

/-- A heard state is taken, or the entry was synchronised and the state not later (R111, R119). -/
theorem GroupEntry.hear_cases (x : GroupEntry) (e : Epoch) (c : Condition) (p : Nat) (n : Cycle) :
    x.hear e c p n = ⟨e, c, true, .relayed, some p, n⟩ ∨
    (x.synchronised = true ∧ laterState e c x.epoch x.condition = false ∧ x.hear e c p n = x) := by
  unfold GroupEntry.hear; split
  · exact .inl rfl
  · rename_i h
    simp only [Bool.or_eq_true, Bool.not_eq_true', not_or, Bool.not_eq_false,
      Bool.not_eq_true] at h
    exact .inr ⟨h.1, h.2, rfl⟩

/-- A RELEASE takes its state, or the entry was synchronised and did not stand before it (R121). -/
theorem GroupEntry.release_cases (x : GroupEntry) (e : Epoch) (p : Nat) (n : Cycle) :
    x.release e p n = ⟨e, .clear, true, .released, some p, n⟩ ∨
    (x.synchronised = true ∧ laterState e .clear x.epoch x.condition = false ∧
      x.release e p n = x) := by
  unfold GroupEntry.release; split
  · exact .inl rfl
  · rename_i h
    simp only [Bool.or_eq_true, Bool.not_eq_true', not_or, Bool.not_eq_false,
      Bool.not_eq_true] at h
    exact .inr ⟨h.1, h.2, rfl⟩

/-- The entry of a group of the table after a write to it. -/
theorem State.group_setGroup (s : State) (g h : Nat) (x : GroupEntry) (hg : g ≠ 0)
    (hl : g ≤ s.groups.length) :
    (s.setGroup g x).group h = if h = g then x else s.group h := by
  simp only [State.setGroup, State.group, if_neg hg, State.setGroups_groups]
  by_cases h0 : h = 0
  · simp [h0, Ne.symm hg]
  · simp only [if_neg h0, List.getD_eq_getElem?_getD, List.getElem?_set]
    by_cases e : h = g
    · subst e
      rw [if_pos rfl, if_pos rfl, if_pos (by omega)]; rfl
    · rw [if_neg (by omega), if_neg e]

/-! ### The Fault Log -/

/-- A recorded fault is the current kind and the last entry, and the first entry of an episode stays
(R183, R184). -/
theorem FaultLog.record_spec (f : FaultLog) (e : FaultEntry) :
    (f.record e).current = some e.kind ∧ (f.record e).last = some e ∧
      (f.record e).first = some (f.first.getD e) := by
  unfold FaultLog.record; split <;> simp_all

/-! ### The end of a record -/

/-- What goes with a record that ends in any way. -/
theorem State.dropRecord_eq (s : State) : s.dropRecord = { s with
    gen := s.gen.ceased, homing := .reset, follow := .reset
    encoder := { s.encoder with settle := none }, barrier := none
    seq := { s.seq with active := none } } := rfl

/-- An active record ends with a result, and the station enters IDLE or FAULTED (R36). -/
theorem State.endRecord_some (s : State) (r : Result) (a : Active) (h : s.seq.active = some a) :
    s.endRecord r = { s with
      gen := s.gen.ceased, homing := .reset, follow := .reset
      encoder := { s.encoder with settle := none }, barrier := none
      seq := s.seq.ended r.station a.work.tag r } := by
  simp only [State.endRecord, h, State.dropRecord_eq]; rfl

theorem State.endRecord_none (s : State) (r : Result) (h : s.seq.active = none) :
    s.endRecord r = s := by
  unfold State.endRecord; rw [h]

/-! ### Faults -/

/-- The halts of a fault change the group table alone (R115). -/
theorem State.raiseInvolved_eq (s : State) (c : Cause) (o : Nat) :
    s.raiseInvolved c o = { s with groups := (s.raiseInvolved c o).groups } := rfl

/-- Nothing is recorded while the station is OFFLINE (R183). -/
theorem State.recordFault_offline (s : State) (k : FaultKind) (t : Option Tag)
    (h : s.station = .offline) : s.recordFault k t = s := by
  unfold State.recordFault; rw [if_pos h]

/-- A fault recorded from IDLE onward, as its parts (R183). -/
theorem State.recordFault_online (s : State) (k : FaultKind) (t : Option Tag)
    (h : s.station ≠ .offline) :
    s.recordFault k t = ((((s.logFault k t).raiseInvolved .fault s.own).faultStation
      k.immediate).clearHomedFor k).pulseFor k := by
  unfold State.recordFault; rw [if_neg h]

/-! ### A stop of the generator -/

/-- A flat run brakes from its flat rate, any other from the current rate (R66, R71). -/
theorem Gen.stopRate_flat (g : Gen) (r : Run) (h : g.phase = .flat) : g.stopRate r = r.baseRate :=
  if_pos h

theorem Gen.stopRate_other (g : Gen) (r : Run) (h : g.phase ≠ .flat) : g.stopRate r = g.rate :=
  if_neg h

/-- A second decelerating stop changes nothing (R66). -/
theorem Gen.brake_braking (g : Gen) (h : g.phase = .braking) : g.brake = g := if_pos h

/-- Braking leaves the rate, the line and the position, and starts the ramp down one step ahead (R66). -/
theorem Gen.brake_run (g : Gen) (r : Run) (h : g.phase ≠ .braking) (hr : g.run = some r) :
    g.brake = { g with
      phase := .braking
      run := some { r with
        endRate := r.profile.fs, baseRate := g.stopRate r, baseSteps := 0, commitWatch := false
        nextRate := rampDown (g.stopRate r) r.profile.fs r.profile.d 1 } } := by
  unfold Gen.brake; rw [if_neg h, hr]; rfl

/-! ### Counting edges -/

/-- A double change in UP/DOWN mode is one edge each way, in one order or the other (R155). -/
theorem Encoder.bothEdges_cases (e : Encoder) (n : Nat) (up : Side) :
    e.bothEdges n up = [up, opposite up] ∨ e.bothEdges n up = [opposite up, up] := by
  unfold Encoder.bothEdges; split
  · exact .inl rfl
  · exact .inr rfl

/-- A pair that is there already is no change (R150). -/
theorem State.pairBecomes_same (s : State) (p : Bool × Bool) (h : (s.drive.encA, s.drive.encB) = p) :
    s.pairBecomes p = s := if_pos h

/-- Without an edge between the write of the offset and the settle check only the count moves (R136). -/
theorem State.comeToRest_nil (s : State) (h : Config.pairsAtRest s.restCount = []) :
    s.comeToRest = { s with restCount := s.restCount + 1 } := by
  unfold State.comeToRest; rw [h]; rfl

/-- An idle step with ENC-Z INACTIVE changes nothing. -/
theorem State.idles_inactive (s : State) (h : s.drive.encZ = false) : s.idles = s := by
  unfold State.idles; rw [if_neg (by simp [h])]

/-- An idle step with ENC-Z ACTIVE changes that conditioned state and the count alone (R150). -/
theorem State.idles_active (s : State) (h : s.drive.encZ = true) : s.idles = { s with
    drive := { s.drive with encZ := Config.indexLevel s.indexCount }
    indexCount := s.indexCount + 1 } := by
  unfold State.idles; rw [if_pos h]; rfl

/-! ### The followed count -/

/-- Within its range the followed count counts each step (R143). -/
theorem Follow.counted_below (f : Follow) (h : f.followed < 16777215) :
    f.counted = f.followed + 1 := if_pos h

/-- The followed count never leaves its range (R139). -/
theorem Follow.counted_le (f : Follow) : f.counted ≤ 16777215 := by
  unfold Follow.counted; split
  · omega
  · have := Config.followedPastTop.isLt; omega

/-! ### Dispatch -/

/-- No candidate: the queue and the stack are empty (R29). -/
theorem State.candidate_eq_none (s : State) : s.candidate = none ↔ s.noWork := by
  unfold State.candidate State.noWork
  split <;> simp_all
  split <;> simp

/-- The gate that stops a candidate or lets it by (R30). -/
theorem State.gate_cases (s : State) (w : Work) :
    (s.gate w = .idle ∧ ((s.seq.paused = true ∧ w.insert = false) ∨ s.drive.clear ≠ .none)) ∨
    (s.gate w = .held ∧ s.groupHalted w.group = true) ∨
    ((∃ k, s.gate w = .arm k ∧ w.barrier = some k) ∨ (s.gate w = .start ∧ w.barrier = none)) ∧
      s.groupHalted w.group = false ∧ s.drive.clear = .none := by
  unfold State.gate State.holdoffRunning
  split
  · left; simp_all
  · split
    · right; left; simp_all
    · split
      · left; simp_all
      · right; right; split <;> simp_all

/-- Dispatch runs in IDLE and HELD only (R28). -/
theorem State.dispatch_busy (s : State) (h : s.busy) : s.dispatch = s := by
  unfold State.dispatch; rw [if_neg]; exact fun c => c.elim h.1 h.2

/-- Dispatch without a candidate leaves the station IDLE (R29). -/
theorem State.dispatch_noWork (s : State) (h : s.noWork) (hs : s.station = .idle ∨ s.station = .held) :
    s.dispatch = s.setStation .idle := by
  have hc := (s.candidate_eq_none).2 h
  unfold State.dispatch
  rw [if_pos hs]
  simp [State.dispatchRounds, State.dispatchStarts, State.dispatchOnce, hc]

/-- A happening that does not enter IDLE dispatches nothing (R28). -/
theorem State.enterIdle_other (s t : State) (h : t.station ≠ .idle) : s.enterIdle t = t := by
  unfold State.enterIdle; rw [if_neg]; exact fun c => h c.1

end Sys2Proof.Machine
end

