-- ==== Sys2Proof/WellFormed.lean ====
section
/-! DEFINITION. Which commands the outside can send at all: addresses below 32 (00 section 1: a link
carries up to 32 stations), bodies whose length fits the length byte of a message header (13.1) and
frames whose bytes fit one frame of at most 255 payload bytes. `exec` is total on every command;
this says which ones a link, a drive or a configuration memory can produce. -/

namespace Sys2Proof

/-- A message can be carried: its sender is an address and its body length fits one byte. -/
def messageWf (sender : Nat) (body : List Byte) : Bool :=
  decide (sender < 32) && decide (body.length < 256)

/-- The bytes of a transmission: a sender, a length, at most 255 bytes of payload and a CRC. -/
def frameWf (bytes : List Byte) : Bool :=
  decide (bytes.length ≤ 261)

/-- Well-formed commands. -/
def Instr.wf : Instr → Bool
  | .powerOn => true
  | .pinReset => true
  | .resetPinRelease => true
  | .configLoadDone bytes _ _ => decide (bytes.length = 39)
  | .configReadTimeout => true
  | .markHeard _ _ => true
  | .markTimerExpiry => true
  | .silenceTimerExpiry => true
  | .peerLost address => decide (address < 32)
  | .dwellEnd => true
  | .barrierStart => true
  | .barrierTimeout => true
  | .settleTimeout => true
  | .followLost => true
  | .frameReceived _ _ bytes => frameWf bytes
  | .status sender _ body => messageWf sender body
  | .segment sender _ body => messageWf sender body
  | .flush sender _ body => messageWf sender body
  | .stop sender _ body => messageWf sender body
  | .resume sender _ body => messageWf sender body
  | .setPosition sender _ body => messageWf sender body
  | .halt sender _ body => messageWf sender body
  | .release sender _ body => messageWf sender body
  | .clearFault sender _ body => messageWf sender body
  | .query sender _ body => messageWf sender body
  | .stationReset sender _ body => messageWf sender body
  | .slotStart => true
  | .listenBack none => true
  | .listenBack (some bytes) => frameWf bytes
  | .stepDue => true
  | .limitInputChange _ _ => true
  | .homeInputChange _ => true
  | .indexEdge => true
  | .drvFltChange _ => true
  | .encoderChange _ _ => true
  | .drvClrPulseEnd => true
  | .holdoffEnd => true

end Sys2Proof
end

