-- ==== Sys2Proof/Tests/Slice0.lean ====
section
/-! SUPPORT. The model's own tests: the well-formedness checks, the layouts of chapter 13 on bytes written
out by hand, one or two commands of each family, and a witness for each statement that has
hypotheses. -/

namespace Sys2Proof.Tests

open Sys2Proof Sys2Proof.Machine

set_option Elab.async false

/-! ### Small states -/

/-- Settings within the ranges of R192. -/
def cfg : Settings :=
  { Settings.unloaded with
    span := 8, slotUnits := 12, lead := 3, lossLimit := 2, defaultProfile := ⟨2, 8, 10, 7⟩,
    divisor := 1, settleTimeout := 3, clrEnabled := true, clrLength := 20, holdoff := 5,
    catchUp := 10, polarities := 127 }

/-- A JOINED station of address 5, IDLE, at cycle 100. -/
def idle : State :=
  { State.reset with
    loader := ⟨.loaded, false, cfg, 5⟩
    link := { Link.reset with state := .joined, cycle := 100, slotTiming := true }
    seq := { Sequencer.reset with station := .idle } }

/-- A state at another station state. -/
def at_ (x : Station) (s : State) : State := { s with seq := { s.seq with station := x } }

/-- A state with other settings. -/
def with_ (c : Settings) (s : State) : State := { s with loader := { s.loader with settings := c } }

/-- A state with these queue entries. -/
def queued (l : List QueueEntry) (s : State) : State := { s with queue := { s.queue with entries := l } }

/-- A state whose group 1 is HALTED at epoch 4. -/
def halted1 (s : State) : State :=
  { s with groups := s.groups.set 0 ⟨4, .halted, true, .commanded, some 1, 90⟩ }

def move (n : Int) : QueueEntry := ⟨7, false, false, 1, ⟨2, 8, 10, 7⟩, none, .move n, false⟩
def dwell (n : Nat) : QueueEntry := ⟨8, false, false, 1, ⟨2, 8, 10, 7⟩, none, .dwell n, false⟩
def insert (e : QueueEntry) : QueueEntry := { e with insert := true }

/-- A record of an entry, under no stop. -/
def act (e : QueueEntry) : Active := ⟨.segment e, none, false, false, none, none⟩

/-- A station whose record is this one. -/
def holding (x : Station) (a : Active) : State :=
  { idle with seq := { idle.seq with station := x, active := some a } }

/-- A run of twenty steps in CRUISING after its fifth. -/
def run : Run := ⟨.counted, some 20, 5, ⟨2, 8, 10, 7⟩, 2, 2, 5, false, 8⟩

/-- A generator in a run. -/
def inRun (p : GenPhase) (rate : Nat) (r : Run) (s : State) : State :=
  { s with gen := { s.gen with phase := p, rate := rate, dirHigh := true, run := some r, position := 5 } }

/-- A running MOVE in CRUISING. -/
def cruising : State := inRun .cruising 8 run (holding .running (act (move 20)))

/-- A FOLLOW of station 1, one to one. -/
def followEntry : QueueEntry := ⟨9, false, false, 1, ⟨2, 8, 10, 7⟩, none, .follow 1 1 1 none, false⟩
def tracking : State :=
  { holding .running (act followEntry) with
    groups := List.replicate 15 ⟨0, .clear, true, .relayed, some 1, 1⟩
    follow := { Follow.reset with phase := .tracking, leader := 1, num := 1, den := 1, silence := 2 } }

def homeEntry (n : Nat) : QueueEntry :=
  ⟨9, false, false, 1, ⟨2, 8, 10, 7⟩, none, .home .pos n 1000 none, false⟩
/-- A record that settles. -/
def settling (n : Nat) : State :=
  { holding .settling (act (move 20)) with encoder := { Encoder.reset with settle := some n } }

/-- A running HOME in a phase, with an index count remaining. -/
def homing (p : HomingPhase) (n : Nat) : State :=
  { holding .running (act (homeEntry n)) with
    homing := { Homing.reset with phase := p, indexRemaining := n, offset := 1000, travelLimit := 500 } }

/-- The barrier of group 1 with station 1. -/
def block : BarrierBlock := ⟨3, 0x22, 2⟩
def record : BarrierRec := ⟨1, 3, 0, 0x22, 2, 100, .armed, none, 2, 0⟩
def armed (b : BarrierRec) : State :=
  { at_ .armed idle with
    barrier := some b
    queue := { idle.queue with entries := [{ dwell 4 with barrier := some block }] } }

/-- A peer entry present at its address. -/
def hears (a : Nat) (e : PeerEntry) (s : State) : State := { s with peers := s.peers.set a e }

/-! ### Well-formed commands -/

theorem test_wf_refuses_a_short_record : (Instr.configLoadDone [1] 0 0).wf = false := by decide
theorem test_wf_refuses_an_address_beyond_the_table : (Instr.peerLost 32).wf = false := by decide
theorem test_wf_refuses_a_long_frame :
    (Instr.frameReceived false 0 (List.replicate 262 0)).wf = false ∧
    (Instr.listenBack (some (List.replicate 262 0))).wf = false := by decide +kernel
theorem test_wf_refuses_a_sender_beyond_31 :
    (Instr.status 32 255 []).wf = false ∧ (Instr.segment 32 5 []).wf = false ∧
    (Instr.flush 32 5 []).wf = false ∧ (Instr.stop 32 5 []).wf = false ∧
    (Instr.resume 32 5 []).wf = false ∧ (Instr.setPosition 32 5 []).wf = false ∧
    (Instr.halt 32 5 []).wf = false ∧ (Instr.release 32 5 []).wf = false ∧
    (Instr.clearFault 32 5 []).wf = false ∧ (Instr.query 32 5 []).wf = false ∧
    (Instr.stationReset 32 5 []).wf = false := by decide
theorem test_wf_refuses_a_long_body :
    (Instr.segment 1 5 (List.replicate 256 0)).wf = false := by decide +kernel
theorem test_wf_takes_a_halt : (Instr.halt 1 255 [3]).wf = true := by decide

/-! ### Layouts, from bytes written out by chapter 13 -/

/-- The CRC-32 of 13.1 over the nine characters 1 to 9 (the check value of that polynomial). -/
theorem test_crc_check_value :
    crc32 [0x31, 0x32, 0x33, 0x34, 0x35, 0x36, 0x37, 0x38, 0x39] = 0xCBF43926 := by decide +kernel

theorem test_mark_check_byte : markCheck 0x1234 = 0xB9 := by decide

/-- A MOVE of −2 with tag 1, CHAIN, group 3 and no blocks. -/
theorem test_segment_move :
    segmentOf 5 8 ⟨1, 2, 3, 4⟩ [1, 1, 2, 3, 0xFE, 0xFF, 0xFF, 0xFF] =
      some ⟨1, false, true, 3, ⟨1, 2, 3, 4⟩, none, .move (-2), false⟩ := by decide +kernel

/-- A GOTO with a profile and a barrier block: number 9, members 1 and 5, wait limit 258. -/
theorem test_segment_goto_with_blocks :
    segmentOf 5 8 ⟨1, 2, 3, 4⟩
      [2, 2, 12, 4, 1, 0, 0, 0, 16, 0, 0, 0, 2, 0, 0, 0, 3, 0, 0, 0, 9, 0x22, 0, 0, 0, 2, 1,
       0, 1, 0, 0] =
      some ⟨2, false, false, 4, ⟨1, 16, 2, 3⟩, some ⟨9, 0x22, 258⟩, .goto 256, false⟩ := by
  decide +kernel

/-- A HOME toward the negative side, index count 2, offset 10, travel bound 300. -/
theorem test_segment_home :
    segmentOf 5 8 ⟨1, 2, 3, 4⟩ [3, 3, 16, 0, 0x21, 10, 0, 0, 0, 0x2C, 1, 0, 0] =
      some ⟨3, false, false, 0, ⟨1, 2, 3, 4⟩, none, .home .neg 2 10 (some 300), false⟩ := by
  decide +kernel

/-- A FOLLOW of station 2 at −1 over 4, and the same with the own address as its leader. -/
theorem test_segment_follow :
    segmentOf 5 8 ⟨1, 2, 3, 4⟩ [4, 5, 1, 0, 2, 0xFF, 4] =
      some ⟨4, true, false, 0, ⟨1, 2, 3, 4⟩, none, .follow 2 (-1) 4 none, false⟩ ∧
    segmentOf 5 8 ⟨1, 2, 3, 4⟩ [4, 5, 1, 0, 5, 0xFF, 4] = none := by decide +kernel

/-- A record of address 5 by its field, span 8, loss limit 2 (13.7). -/
def recordBytes : List Byte :=
  [1, 5, 8, 12, 3, 2, 2, 0, 0, 0, 8, 0, 0, 0, 10, 0, 0, 0, 7, 0, 0, 0, 0, 1, 0, 0, 0, 3, 0, 0, 1,
   20, 5, 10, 0, 127, 0, 225, 0]

theorem test_record_is_taken :
    settingsOf recordBytes =
      some { cfg with addressFromField := true, addressField := 5 } := by decide +kernel

/-- One bit of the checksum changed. -/
theorem test_record_with_a_wrong_checksum : settingsOf (recordBytes.set 37 224) = none := by
  decide +kernel

/-! ### Commands -/

/-- The state after a command. -/
def after (c : Instr) (s : State) : State :=
  match exec c s with
  | .next t => t
  | .fault _ => s
  | .refused _ => s

theorem test_load_gives_the_address :
    (after (.configLoadDone recordBytes 3 0) .reset).own = 5 ∧
    (after (.configLoadDone recordBytes 3 0) .reset).link.silenceTimer = some (4 * (8 + 8 * 96)) := by
  decide +kernel

/-- Two marks in a row join, the second giving the number (R169). -/
theorem test_join_by_pair :
    let s := after (.markHeard 7 (markCheck 7)) (after (.configLoadDone recordBytes 3 0) .reset)
    s.link.state = .listening ∧ (after (.markHeard 8 (markCheck 8)) s).link.state = .joined ∧
      (after (.markHeard 8 (markCheck 8)) s).station = .idle := by decide +kernel

/-- The first step of a MOVE is emitted at its start rate within the start (R57, R60). -/
theorem test_segment_starts_a_move :
    let s := after (.segment 1 5 [0, 1, 0, 0, 3, 0, 0, 0]) idle
    s.station = .running ∧ s.gen.position = 1 ∧ s.gen.rate = 2 ∧ s.queue.entries = [] := by
  decide +kernel

/-- The second rate of a ramp is the root of 2² + 2 × 10 (R60). -/
theorem test_ramp_second_rate :
    (after .stepDue (after (.segment 1 5 [0, 1, 0, 0, 9, 0, 0, 0]) idle)).gen.rate = 4 := by
  decide +kernel

theorem test_duplicate_is_dropped :
    after (.segment 1 5 [255, 1, 0, 0, 3, 0, 0, 0]) idle = idle := by decide +kernel

theorem test_flush_keeps_other_groups :
    (after (.flush 1 5 [2, 2]) (queued [move 3] (at_ .faulted idle))).queue.entries = [move 3] := by
  decide +kernel

theorem test_stop_pause_brakes :
    (after (.stop 1 5 [3]) cruising).station = .stopping ∧
    (after (.stop 1 5 [3]) cruising).seq.paused = true := by decide +kernel

theorem test_halt_counts_the_epoch :
    ((after (.halt 1 255 [1]) idle).group 1).epoch = 1 := by decide +kernel

theorem test_release_names_its_epoch :
    ((after (.release 1 255 [1, 4]) (halted1 idle)).group 1).condition = .clear := by decide +kernel

theorem test_set_position_wraps_nothing :
    (after (.setPosition 1 5 [0xFF, 0xFF, 0xFF, 0xFF, 1]) idle).gen.position = -1 ∧
    (after (.setPosition 1 5 [0xFF, 0xFF, 0xFF, 0xFF, 1]) idle).seq.homed = true := by decide +kernel

theorem test_limit_stops_and_pulses :
    (after (.limitInputChange .pos true) cruising).station = .faulted ∧
    (after (.limitInputChange .pos true) cruising).drive.clear = .pulse := by decide +kernel

theorem test_limit_behind_is_recorded_only :
    (after (.limitInputChange .neg true) cruising).station = .running := by decide +kernel

/-- In 4X mode B changing to the level of A counts one edge up (R155). -/
theorem test_encoder_counts_an_edge :
    let s := { with_ { cfg with encoderMode := .quad4 } idle with
      encoder := { Encoder.reset with pair := some (true, false) }
      drive := { Drive.reset with encA := true } }
    (after (.encoderChange true true) s).encoder.position = 1 := by decide +kernel

theorem test_slot_sends_a_status :
    ((after .slotStart idle).link.sending.map List.length) = some (6 + 3 + 49) := by decide +kernel

theorem test_mark_of_its_dwell_end_completes :
    (after .markTimerExpiry
      (holding .running { act (dwell 4) with dwellEnd := some 101 })).seq.lastFinished =
      some (8, .done) := by decide +kernel

theorem test_step_runs_the_front_command :
    step { idle with pending := [.resume 1 5 [], .stepDue] } =
      .next { idle with pending := [.stepDue] } := rfl

/-! ### Witnesses: for each statement with hypotheses, states and operands that meet them -/

theorem witness_StepRunsTheFrontCommand :
    { idle with pending := [.stepDue] }.pending = .stepDue :: [] ∧ idle.pending = [] := by decide

/-- A record whose address is its span. -/
def beyondSpan : List Byte := (recordBytes.set 1 8).set 37 228

theorem witness_FailedLoadLeavesEverythingElse :
    { State.reset with loader := { State.reset.loader with resetPin := true } }.loader.resetPin = true ∧
    State.reset.loader.load = .loading ∧ State.reset.loader.resetPin = false ∧
    settingsOf [1] = none ∧
    (settingsOf beyondSpan).map (fun c => decide (c.span ≤ addressOf c 0)) = some true := by
  decide +kernel

theorem witness_SuccessfulLoadPutsTheRecordIntoUse :
    State.reset.loader.load = .loading ∧ State.reset.loader.resetPin = false ∧
    settingsOf recordBytes = some { cfg with addressFromField := true, addressField := 5 } ∧
    addressOf { cfg with addressFromField := true, addressField := 5 } 3 < cfg.span := by
  decide +kernel

theorem witness_SettingsStayAfterTheLoad :
    idle.loader.load = .loaded ∧ Instr.stepDue ≠ .powerOn ∧ Instr.stepDue ≠ .pinReset ∧
    exec .stepDue idle = .next (after .stepDue idle) :=
  have h : idle.loader.load = .loaded ∧ Instr.stepDue ≠ .powerOn ∧ Instr.stepDue ≠ .pinReset := by
    decide
  ⟨h.1, h.2.1, h.2.2, rfl⟩

theorem witness_MarkWithWrongCheckByteIsNotHeard :
    (0 : Byte) ≠ ~~~((0x1234 : Cycle).setWidth 8 + ((0x1234 : Cycle) >>> 8).setWidth 8) := by decide

def listening : State :=
  { at_ .offline idle with link := { Link.reset with state := .listening, lastMark := some 6 } }
def driveFaulty (s : State) : State := { s with drive := { s.drive with drvFlt := true } }

theorem witness_ListeningStationJoins :
    listening.link.state = .listening ∧ listening.link.lastMark ≠ some (9 - 1) ∧
    listening.link.lastMark = some (7 - 1) ∧ listening.station = .offline ∧ listening.noWork ∧
    listening.drive.drvFlt = false ∧ listening.errorBeyond = false ∧
    (driveFaulty listening).link.state = .listening ∧ (driveFaulty listening).drive.drvFlt = true ∧
    (driveFaulty listening).errorBeyond = false := by decide +kernel

def silent : State := { idle with link := { idle.link with state := .silent } }

/-- Station 1 present with a miss count, unheard since the last mark. -/
def unheard (n : Nat) (s : State) : State := hears 1 ⟨.present, n, false, none⟩ s

/-- The mark after the one of cycle 100 and a slip to 105, over each kind of work that counts marks; with
a loss limit of 2 one miss is no loss and a second is. -/
theorem witness_MarksGiveTheCycleItsNumber :
    idle.link.state = .joined ∧ silent.link.state = .silent ∧ silent.link.state ≠ .joined ∧
    (101 : Cycle) ≠ idle.link.cycle ∧ (99 : Cycle) ≠ silent.link.cycle ∧
    (101 : Cycle) = idle.link.cycle + 1 ∧ (105 : Cycle) ≠ idle.link.cycle + 1 ∧
    (unheard 0 idle).noLossAtMark ∧ ¬(unheard 1 idle).noLossAtMark := by decide +kernel

theorem witness_MarksGiveTheCycleItsNumber_barrier :
    cruising.noLossAtMark ∧ cruising.activeKind ≠ some .dwell ∧ cruising.follow.phase ≠ .tracking ∧
    (armed record).noLossAtMark ∧ (armed record).station = .armed ∧
    (armed record).barrier = some record ∧ record.phase = .armed ∧ record.start = none ∧
    (armed { record with start := some 101 }).noLossAtMark ∧
    (armed { record with start := some 103 }).noLossAtMark := by decide +kernel

/-- Station 1 was last heard one mark before its loss. -/
def fading : State := unheard 1 idle

theorem witness_NewCycleJudgesThePeerTable :
    fading.link.state = .joined ∧ (101 : Cycle) ≠ fading.link.cycle ∧ fading.peers.length = 32 ∧
    ((fading.peer 1).presence = .present → (fading.peer 1).miss < fading.cfg.lossLimit) ∧
    ((fading.peer 31).presence = .present → (fading.peer 31).miss < fading.cfg.lossLimit) := by decide

def missing (s : State) : State := unheard 2 s

theorem witness_PeerLossActsOnEntryAndBarrier :
    (missing idle).follow.phase = .none ∧ 1 ≠ (missing idle).own ∧
    ((missing idle).peer 1).presence = .present ∧
    (missing idle).cfg.lossLimit ≤ ((missing idle).peer 1).miss ∧ (missing idle).barrier = none ∧
    (missing (armed record)).barrier = some record ∧ record.mask.getLsbD 1 = true ∧
    (missing (armed record)).station = .armed ∧ 1 ≤ record.group ∧ record.group ≤ 15 ∧
    (missing (armed record)).groups.length = 15 ∧
    ((missing (armed record)).group record.group).condition = .clear ∧
    ¬(fading.cfg.lossLimit ≤ (fading.peer 1).miss) := by decide +kernel

def dwelling (e : Cycle) : State := holding .running { act (dwell 4) with dwellEnd := some e }

theorem witness_DwellEndsAtItsMarkAndFaultsAtASlip :
    (dwelling 100).station = .running ∧
    (dwelling 100).seq.active = some { act (dwell 4) with dwellEnd := some 100 } ∧
    (act (dwell 4)).work.kind = .dwell ∧ (dwelling 100).noWork ∧
    (dwelling 101).seq.active ≠ (dwelling 100).seq.active ∧ (dwelling 101).link.state = .joined ∧
    (100 : Cycle) = (dwelling 100).link.cycle ∧ (102 : Cycle) ≠ (dwelling 101).link.cycle + 1 ∧
    (102 : Cycle) ≠ (dwelling 101).link.cycle := by decide +kernel

/-- The marks that a running DWELL, a settling record and a follower count. -/
theorem witness_MarksGiveTheCycleItsNumber_counts :
    (dwelling 101).noLossAtMark ∧ (dwelling 101).noWork ∧ (settling 2).noLossAtMark ∧
    (settling 2).station = .settling ∧ (settling 2).encoder.settle = some 2 ∧
    tracking.noLossAtMark ∧ tracking.station = .running ∧ tracking.follow.phase = .tracking ∧
    tracking.activeKind ≠ some .dwell := by decide +kernel

theorem witness_CountedWaitsFault :
    (armed record).station = .armed ∧ (armed record).barrier = some record ∧ record.phase = .armed ∧
    record.start = none ∧ record.waitLimit ≠ 0 ∧ record.waitLimit ≤ record.waitCount ∧
    { record with waitCount := 1 }.waitCount < { record with waitCount := 1 }.waitLimit ∧
    (settling 3).station = .settling ∧ (settling 3).seq.active = some (act (move 20)) ∧
    (settling 3).encoder.settle = some 3 ∧ (settling 3).cfg.settleTimeout ≤ 3 ∧
    2 < (settling 2).cfg.settleTimeout ∧
    tracking.station = .running ∧ tracking.seq.active = some (act followEntry) ∧
    (act followEntry).work.kind = .follow ∧ tracking.follow.phase = .tracking ∧
    tracking.cfg.lossLimit ≤ tracking.follow.silence ∧ tracking.gen.phase = .standstill ∧
    (inRun .flat 8 run tracking).gen.phase = .flat ∧
    (inRun .flat 8 run tracking).gen.run = some run ∧
    run.profile.fs < { run with baseRate := 8 }.baseRate := by decide +kernel

/-- IDLE under the pause latch, a barrier segment of the members in a mask at the head. -/
def waiting (m : Mask) : State :=
  { queued [{ dwell 4 with barrier := some { block with mask := m } }] idle with
    seq := { idle.seq with paused := true } }

theorem witness_BarrierArmsAndComputesS_arming :
    (waiting 0x20).addressed 5 ∧ (waiting 0x20).station = .idle ∧ (waiting 0x20).seq.paused = true ∧
    (waiting 0x20).drive.clear = .none ∧ (waiting 0x20).stack.residuals = [] ∧
    (waiting 0x20).queue.entries = [{ dwell 4 with barrier := some { block with mask := 0x20 } }] ∧
    1 ≤ (dwell 4).group ∧ (dwell 4).group ≤ 15 ∧ ((waiting 0x20).group 1).condition = .clear ∧
    (waiting 0x20).own < 32 ∧ 0 < (waiting 0x20).cfg.lead ∧ (waiting 0x20).groups.length = 15 ∧
    (0x20 : Mask) = 1#32 <<< (waiting 0x20).own ∧
    (0x80000020 : Mask).getLsbD 31 = true ∧
    (∀ m, m < 32 → m ≠ (waiting 0x80000020).own → (0x80000020 : Mask).getLsbD m = true →
      ((waiting 0x80000020).peer m).presence = .unknown) ∧
    ((hears 1 ⟨.lost, 2, false, none⟩ (waiting 0x22)).peer 1).presence = .lost := by decide +kernel

/-- A STATUS body of a peer that advertises its barrier, with the group vector of a reset table. -/
def advertised (flags : Byte) (since : Byte) (mask : Byte) : List Byte :=
  List.replicate 22 0 ++ [flags, 1, 3, 0, since, 0, mask, 0, 0, 0] ++ List.replicate 17 0

/-- ARMED with station 1 present and every group synchronised. -/
def together (b : BarrierRec) : State :=
  let s := hears 1 ⟨.present, 0, true, none⟩ (armed b)
  { s with groups := List.replicate 15 ⟨0, .clear, true, .relayed, some 1, 1⟩ }

theorem witness_BarrierArmsAndComputesS_reading :
    (together record).link.state = .joined ∧ (together record).station = .armed ∧
    (together record).barrier = some record ∧ record.phase = .armed ∧ record.start = none ∧
    (together record).own < 32 ∧ 1 ≠ (together record).own ∧ (together record).peers.length = 32 ∧
    record.mask = 1#32 <<< (together record).own ||| 1#32 <<< 1 ∧
    ((together record).peer 1).presence = .present ∧
    (100 - 98 : Cycle).toNat < cfg.lead ∧ cfg.lead ≤ (100 - 97 : Cycle).toNat ∧
    (statusOf (advertised 0 99 0x22)).any (fun p => decide ((together record).agrees p ∧
      p.adv.present = false)) = true ∧
    (statusOf (advertised 1 98 0x22)).any (fun p => decide ((together record).agrees p ∧
      p.adv = ⟨true, false, 1, 3, 0, 98, 0x22⟩)) = true ∧
    (statusOf (advertised 1 99 0x23)).any (fun p => decide ((together record).agrees p ∧
      p.adv = ⟨true, false, 1, 3, 0, 99, 0x23⟩)) = true :=
  by decide +kernel

def due : BarrierRec := { record with start := some 100 }

theorem witness_BarrierDwellStartsAtS :
    (armed due).station = .armed ∧ (armed due).barrier = some due ∧ due.phase = .armed ∧
    (armed due).queue.entries = [{ dwell 4 with barrier := some block }] ∧
    (armed due).stack.residuals = [] ∧ due.start = some (armed due).link.cycle ∧
    record.start ≠ some (armed record).link.cycle := by decide +kernel

theorem witness_ArmedStationStartsOnlyAtS :
    ((armed due).station = .armed ∧ (armed due).linkOk ∧ (armed due).armedOk = true ∧
      (after .barrierStart (armed due)).station = .running) ∧
    exec .barrierStart (armed due) = .next (after .barrierStart (armed due)) :=
  ⟨by decide +kernel, rfl⟩

/-- A frame of station 1 that carries no message. -/
def emptyFrame : List Byte := frameOf 1 []

theorem witness_FrameCheckDropsOrGivesPresence :
    State.reset.link.state = .offline ∧ idle.link.state ≠ .offline ∧
    ¬(idle.link.slotTiming = true ∧ 8000 + 96000 < 8000) ∧ 0 < idle.cfg.slotUnits ∧
    frameSound [1, 0, 1, 2, 3, 4] = false ∧ frameSound emptyFrame = true ∧
    frameSound (frameOf 5 []) = true ∧ (byteAt (frameOf 5 []) 0).toNat = idle.own ∧
    (byteAt emptyFrame 0).toNat ≠ idle.own ∧ (byteAt emptyFrame 1).toNat = 0 ∧
    (idle.link.slotTiming = true ∧ 7999 < 8000 ∧ (markBytes 101).length = 3 ∧ emptyFrame.length ≠ 3) ∧
    (1 < idle.cfg.span ∧ 8000 + 1 * (8000 * 12) ≤ 104000 ∧ 199999 < 8000 + (1 + 1) * (8000 * 12)) ∧
    ¬(200000 < 8000 + (1 + 1) * (8000 * 12)) := by decide +kernel

theorem witness_FrameIsReadBackAsWritten :
    31 < 32 ∧ (payloadOf [⟨3, 5, [1]⟩, ⟨0x77, 255, List.replicate 121 3⟩]).length = 128 := by
  decide +kernel

theorem witness_ValidFrameRunsItsMessages :
    idle.link.state ≠ .offline ∧ 8000 ≤ 104000 ∧
    frameSound (frameOf 1 (payloadOf [⟨6, 255, [1]⟩, ⟨7, 255, [1, 1]⟩])) = true ∧
    (byteAt (frameOf 1 (payloadOf [⟨6, 255, [1]⟩])) 0).toNat ≠ idle.own ∧
    idle.slotOf 104000 = some 1 := by decide +kernel

theorem witness_StatusBodyIsReadBackAsWritten :
    (armed record).groups.length = 15 ∧ (armed record).barrier = some record ∧ record.group < 256 ∧
    idle.seq.lastFinished = none ∧ idle.seq.active = none ∧
    idle.queue.refusal.kind ≠ some .segment ∧
    (after .dwellEnd (dwelling 100)).seq.lastFinished = some (8, .done) ∧
    cruising.seq.active = some (act (move 20)) ∧
    (after (.segment 1 5 [3, 1, 0, 1]) idle).queue.refusal.kind = some .segment ∧
    (after (.segment 1 5 [3, 1, 0, 1]) idle).queue.refusal.tag = some 3 ∧
    (after (.segment 1 5 [3]) idle).queue.refusal.kind = some .segment ∧
    (after (.segment 1 5 [3]) idle).queue.refusal.tag = none := by decide +kernel

def asked (k : QueryKind) (clear : Bool) : State :=
  { idle with link := { idle.link with query := some ⟨k, clear, 1⟩ } }

theorem witness_OwnSlotSendsStatusAndReport :
    idle.link.state = .joined ∧ idle.link.slotPasses = false ∧ idle.link.query = none ∧
    (asked .counters true).link.query = some ⟨.counters, true, 1⟩ ∧
    (asked .faults false).link.query = some ⟨.faults, false, 1⟩ ∧ silent.link.state ≠ .joined ∧
    (queued (List.replicate 16 (move 1)) (halted1 idle)).sizesOk ∧
    (queued (List.replicate 16 (move 1)) idle).queue.entries.length ≤ 16 ∧
    ((halted1 idle).group 1).originator = some 1 ∧ idle.countersOk ∧
    (idle.faults.first = none ∧ idle.faults.last = none) := by
  decide +kernel

def sent (n : Nat) : State :=
  { idle with link := { idle.link with sending := some [1, 2], listenFailures := n } }

theorem witness_ListenBackCountsAndSilences :
    (sent 1).link.state = .joined ∧ (sent 1).link.sending = some [1, 2] ∧
    (none : Option (List Byte)) ≠ some [1, 2] ∧ (sent 1).link.listenFailures < 2 ∧
    (sent 2).link.listenFailures = 2 ∧ (sent 2).station ≠ .offline ∧ (sent 2).station = .idle ∧
    idle.link.sending = none := by decide +kernel

theorem witness_SilentStationStaysSilent :
    (silent.link.state = .silent ∧ silent.loader.load = .loaded) ∧
    exec .slotStart silent = .next (after .slotStart silent) := ⟨by decide, rfl⟩

theorem witness_MessagesForOthersAreNotTaken :
    ¬idle.addressed 6 ∧ ¬idle.addressed 254 ∧ ¬silent.addressed 5 := by decide

theorem witness_WrongLengthIsRefusedBadField :
    idle.addressed 5 ∧ idle.addressed 255 ∧ ([1, 2, 3] : List Byte).length < 4 ∧
    ([] : List Byte).length ≠ 2 ∧ ([1, 2] : List Byte).length ≠ 1 ∧
    ([1, 2, 3, 4] : List Byte).length ≠ 5 ∧ ([1] : List Byte).length ≠ 0 := by decide

/-- Distances 0, 1, 128, 129 and 255 of a tag from the expected tag 0. -/
theorem witness_SegmentTagIsClassified :
    idle.addressed 5 ∧ ([0, 1, 2] : List Byte).length < 4 ∧ 4 ≤ ([0, 1, 2, 3] : List Byte).length ∧
    (idle.queue.expected - 0).toNat = 0 ∧ (idle.queue.expected - 255).toNat = 1 ∧
    (idle.queue.expected - 128).toNat = 128 ∧ (idle.queue.expected - 127).toNat = 129 ∧
    (idle.queue.expected - 1).toNat = 255 := by decide +kernel

theorem witness_EntriesArePlacedByTheInsertFlag :
    (move 1).insert = false ∧ (insert (move 1)).insert = true := by decide

/-- A DWELL of 4, and a MOVE of 3 with the INSERT flag, as SEGMENT bodies with tag 0. -/
def dwellBody : List Byte := [0, 4, 0, 1, 4, 0]
def insertBody : List Byte := [0, 1, 1, 1, 3, 0, 0, 0]
def takenDwell : QueueEntry := { dwell 4 with tag := 0 }
def takenInsert : QueueEntry := { insert (move 3) with tag := 0 }

theorem witness_SegmentIsAccepted :
    idle.addressed 5 ∧ 4 ≤ dwellBody.length ∧ byteAt dwellBody 0 = idle.queue.expected ∧
    segmentOf idle.own idle.cfg.span idle.cfg.defaultProfile dwellBody = some takenDwell ∧
    segmentOf idle.own idle.cfg.span idle.cfg.defaultProfile insertBody = some takenInsert ∧
    (queued (List.replicate 15 (move 1)) idle).queue.entries.length < 16 ∧
    takenDwell.insert = false ∧ idle.insertRefusal = none ∧ cruising.busy ∧
    (at_ .faulted idle).station = .faulted ∧ idle.station = .idle ∧ idle.noWork ∧
    idle.seq.paused = false ∧ idle.drive.clear = .none ∧ takenDwell.barrier = none ∧
    idle.groupHalted takenDwell.group = false ∧ idle.own < 32 ∧
    segmentOf idle.own idle.cfg.span idle.cfg.defaultProfile [0, 1, 0, 1] = none := by decide +kernel

/-- One body for each check of R7, well made but for it. -/
theorem test_segment_checks :
    ([[0, 6, 0, 0, 1, 0], [0, 4, 0, 16, 1, 0], [0, 4, 2, 0, 1, 0],
      [0, 4, 8, 0, 1, 32, 0, 0, 0, 0, 0, 1, 0], [0, 4, 8, 1, 1, 2, 0, 0, 0, 0, 0, 1, 0],
      [0, 4, 8, 1, 1, 32, 1, 0, 0, 0, 0, 1, 0],
      [0, 4, 4, 0, 1, 0, 0, 0, 2, 0, 0, 0, 3, 0, 0, 0, 4, 0, 0, 0, 1, 0],
      [0, 1, 4, 0, 3, 0, 0, 0, 2, 0, 0, 0, 3, 0, 0, 0, 4, 0, 0, 0, 1, 0, 0, 0],
      [0, 1, 0, 0, 0, 0, 0, 0], [0, 1, 0, 0, 0, 0, 0, 1], [0, 3, 16, 0, 0, 0, 0, 0, 0, 0, 0, 0, 0],
      [0, 5, 0, 0, 8, 1, 1], [0, 5, 0, 0, 5, 1, 1], [0, 5, 0, 0, 2, 0, 1], [0, 5, 0, 0, 2, 1, 0],
      [0, 5, 16, 0, 2, 1, 1, 0, 0, 0, 0], [0, 4, 0, 0, 0, 0], [0, 4, 0, 0, 1, 0, 0]] :
        List (List Byte)).all
      (fun b => (segmentOf 5 8 ⟨1, 2, 3, 4⟩ b).isNone) = true := by decide +kernel

def residual : Residual := ⟨1, 1, none, ⟨2, 8, 10, 7⟩, .pause, .move 4⟩
def stacked (l : List Residual) (s : State) : State := { s with stack := { s.stack with residuals := l } }

theorem witness_InsertIsRefusedOrPreempts :
    (armed record).addressed 5 ∧ 4 ≤ insertBody.length ∧
    byteAt insertBody 0 = (armed record).queue.expected ∧
    segmentOf cruising.own cruising.cfg.span cruising.cfg.defaultProfile insertBody =
      some takenInsert ∧
    16 ≤ (queued (List.replicate 16 (move 1)) idle).queue.entries.length ∧
    takenInsert.insert = true ∧ (armed record).station = .armed ∧ tracking.station = .running ∧
    tracking.seq.active = some (act followEntry) ∧ (act followEntry).work.kind = .follow ∧
    3 ≤ (stacked [residual, residual, residual] cruising).stack.residuals.length ∧
    (stacked [residual, residual] cruising).stack.residuals.length < 3 ∧
    cruising.station = .running ∧ cruising.seq.active = some (act (move 20)) ∧
    (act (move 20)).work.kind = .move ∧ cruising.gen.run = some run ∧
    cruising.gen.phase ≠ .standstill ∧ cruising.gen.phase ≠ .braking ∧
    cruising.gen.phase ≠ .flat ∧ run.profile.fs < cruising.gen.rate ∧
    cruising.follow.phase = .none := by decide +kernel

theorem witness_FlushRemovesItsScope :
    cruising.addressed 5 ∧ cruising.busy ∧ cruising.station ≠ .armed ∧ (15 : Byte).toNat ≤ 15 ∧
    15 < (16 : Byte).toNat ∧ (armed record).addressed 5 ∧ (armed record).busy ∧
    (armed record).station = .armed ∧ (armed record).stack.residuals = [] ∧
    (armed record).queue.entries = { dwell 4 with barrier := some block } :: [] := by
  decide +kernel

def paused (s : State) : State := { s with seq := { s.seq with paused := true } }

theorem witness_StopAndContinueByStationState :
    idle.addressed 5 ∧ 3 < (4 : Byte).toNat ∧ (at_ .faulted idle).station = .faulted ∧
    (armed record).station = .armed ∧ (at_ .held idle).station = .held ∧
    (at_ .stopping cruising).station = .stopping ∧ (paused idle).station = .idle ∧
    (paused idle).seq.paused = true ∧ idle.seq.paused = false ∧ (paused cruising).busy ∧
    (paused idle).noWork := by decide +kernel

theorem witness_StopBrakesOrEndsARunningMove :
    cruising.addressed 5 ∧ cruising.station = .running ∧ cruising.seq.active = some (act (move 20)) ∧
    (act (move 20)).work.kind = .move ∧ cruising.follow.phase = .none ∧
    cruising.gen.run = some run ∧ cruising.gen.phase ≠ .standstill ∧ cruising.gen.phase ≠ .braking ∧
    run.profile.fs < cruising.gen.rate ∧ cruising.noWork := by decide +kernel

theorem witness_SetPositionWritesBothPositions :
    idle.addressed 5 ∧ ([1, 2, 3, 4] : List Byte).length ≠ 5 ∧
    ([1, 2, 3, 4, 1] : List Byte).length = 5 ∧ cruising.station = .running ∧
    (armed record).station = .armed := by decide +kernel

theorem witness_HaltRaisesTheGroup :
    idle.addressed 5 ∧ idle.groups.length = 15 ∧ 15 < (16 : Byte).toNat ∧ 1 ≤ (1 : Byte).toNat ∧
    (15 : Byte).toNat ≤ 15 ∧ ((halted1 idle).group 1).condition = .halted ∧
    (idle.group 15).condition = .clear ∧ (at_ .faulted idle).station = .faulted ∧
    (armed record).barrier = some record ∧ record.group = (1 : Byte).toNat ∧
    cruising.station = .running ∧ cruising.seq.active = some (act (move 20)) ∧
    (act (move 20)).work.group = (1 : Byte).toNat ∧ (act (move 20)).work.kind ≠ .dwell ∧
    cruising.follow.phase = .none ∧ cruising.gen.run = some run ∧
    cruising.gen.phase ≠ .standstill ∧ cruising.gen.phase ≠ .braking ∧
    run.profile.fs < cruising.gen.rate := by decide +kernel

theorem witness_ReleaseClearsTheNamedEpoch :
    idle.addressed 5 ∧ idle.groups.length = 15 ∧ (idle.group 1).synchronised = false ∧
    (halted1 cruising).busy ∧ (halted1 cruising).station ≠ .armed ∧
    ((halted1 idle).group 1).synchronised = true ∧ ((halted1 idle).group 1).condition = .halted ∧
    ((halted1 idle).group 1).epoch = 4 ∧ ((131 : Byte) - 4).toNat ≤ 127 ∧
    127 < ((132 : Byte) - 4).toNat ∧ (at_ .held (halted1 (queued [dwell 4] idle))).station = .held ∧
    (at_ .held (halted1 (queued [dwell 4] idle))).seq.paused = false ∧
    (at_ .held (halted1 (queued [dwell 4] idle))).drive.clear = .none ∧
    (at_ .held (halted1 (queued [dwell 4] idle))).stack.residuals = [] ∧
    (at_ .held (halted1 (queued [dwell 4] idle))).queue.entries = dwell 4 :: [] ∧
    (dwell 4).barrier = none ∧ (dwell 4).group = (1 : Byte).toNat := by decide +kernel

theorem witness_StatusIsWrittenAndItsVectorAdopted :
    State.reset.link.state = .offline ∧ ([1] : List Byte).length ≠ 49 ∧
    idle.link.state ≠ .offline ∧ 1 ≠ idle.own ∧ (statusOf (advertised 0 0 0)).isSome = true ∧
    idle.sizesOk ∧ cruising.sizesOk ∧ (armed record).sizesOk ∧ (at_ .faulted idle).sizesOk ∧
    (at_ .faulted idle).station = .faulted ∧ (at_ .faulted idle).barrier = none := by decide +kernel

theorem witness_HaltedGroupStaysHalted :
    ((halted1 idle).group 1).condition = .halted ∧
    exec (.halt 1 255 [1]) (halted1 idle) = .next (after (.halt 1 255 [1]) (halted1 idle)) :=
  ⟨by decide, rfl⟩

/-- FAULTED after a drive fault, with DRV-FLT as given. -/
def faulted (x : Bool) : State :=
  { at_ .faulted idle with
    drive := { Drive.reset with drvFlt := x }
    faults := (FaultLog.reset).record ⟨.driveFault, 90, none, 0⟩ }

theorem witness_ClearFaultIsRefusedOrEndsTheEpisode :
    idle.addressed 5 ∧ idle.station ≠ .faulted ∧ (faulted true).station = .faulted ∧
    FaultKind.driveFault ∈ (faulted true).faults.kinds ∧ (faulted true).drive.drvFlt = true ∧
    (faulted false).drive.drvFlt = false ∧ FaultKind.followingError ∉ (faulted false).faults.kinds ∧
    (faulted false).noWork ∧
    (halted1 (queued [dwell 4] (faulted false))).queue.entries = dwell 4 :: [] ∧
    (halted1 (queued [dwell 4] (faulted false))).stack.residuals = [] ∧
    (halted1 (queued [dwell 4] (faulted false))).seq.paused = false ∧
    (halted1 (queued [dwell 4] (faulted false))).groupHalted (dwell 4).group = true := by
  decide +kernel

theorem witness_QueryBecomesPending :
    idle.addressed 5 ∧ (0 : Byte).toNat % 128 = 0 ∧ 6 < (7 : Byte).toNat % 128 ∧
    ((129 : Byte).getLsbD 7 = true ∧ (129 : Byte).toNat % 128 ≠ 6) ∧
    (1 : Byte).toNat % 128 = 1 ∧ (134 : Byte).toNat % 128 = 6 := by decide

theorem witness_StationResetEmptiesWorkAndKeepsTheRest :
    cruising.addressed 5 ∧ cruising.drive.drvFlt = false ∧ cruising.errorBeyond = false ∧
    cruising.involved 1 = true ∧ cruising.involved 2 = false ∧ idle.addressed 5 ∧
    (stacked [residual] idle).involved 1 = true ∧ (armed record).involved 1 = true := by
  decide +kernel

theorem witness_FirstFaultIsKept :
    (faulted true).faults.first = some ⟨.driveFault, 90, none, 0⟩ ∧
    exec .stepDue (faulted true) = .next (after .stepDue (faulted true)) := ⟨by decide +kernel, rfl⟩

/-- An empty log, an open episode, its kind recorded and not, and a count at 254 and at 255. -/
theorem witness_FirstFaultIsKept_records :
    FaultLog.reset.first = none ∧ (faulted true).faults.first ≠ none ∧
    FaultKind.driveFault ∈ (faulted true).faults.kinds ∧ FaultKind.range ∉ (faulted true).faults.kinds ∧
    ({ (faulted true).faults with count := 254 }.record ⟨.range, 91, none, 0⟩).count = 255 ∧
    ({ (faulted true).faults with count := 255 }.record ⟨.range, 91, none, 0⟩).count = 255 := by
  decide +kernel

theorem witness_HomedIsSetOnlyByHomingAndSetPosition :
    ((homing .index 1).seq.homed = false ∧ (after .indexEdge (homing .index 1)).seq.homed = true) ∧
    exec .indexEdge (homing .index 1) = .next (after .indexEdge (homing .index 1)) :=
  ⟨by decide +kernel, rfl⟩

/-- The deceleration begins at the step that leaves 5, the braking distance from 8 to 2; at the step that
leaves 6 the run cruises on. -/
theorem witness_StepMovesByOneAndRatesTheNext :
    idle.gen.run = none ∧ cruising.station = .running ∧
    cruising.seq.active = some (act (move 20)) ∧ (act (move 20)).work.kind = .move ∧
    cruising.cfg.followingWindow = 0 ∧ cruising.gen.run = some run ∧ run.kind = .counted ∧
    run.count = some 20 ∧ run.commitWatch = false ∧ run.emitted + 1 < 20 ∧
    cruising.gen.phase = .cruising ∧ 0 < run.profile.d ∧ run.nextRate = run.profile.ft ∧
    (8 * 8 - 2 * 2 + 2 * 7 - 1) / (2 * 7) = 5 ∧ 20 - (14 + 1) ≤ 5 ∧ 5 < 20 - (13 + 1) := by
  decide +kernel

/-- An open run of a HOME in a phase, under way in a direction with its travel used. -/
def openRun : Run := { Run.seekBegun ⟨2, 8, 10, 7⟩ with emitted := 4, baseSteps := 4, nextRate := 8 }
def homingRun (p : HomingPhase) (leg : Leg) (d : Side) (used : Nat) : State :=
  let s := inRun .accelerating 7 openRun (homing p 1)
  { s with
    gen := { s.gen with dir := d }
    homing := { s.homing with leg := leg, travelUsed := used } }

theorem witness_StepMovesByOneAndRatesTheNext_homing :
    (homingRun .seek .moving .pos 499).seq.active = some (act (homeEntry 1)) ∧
    (act (homeEntry 1)).work.kind = .home ∧
    (homingRun .seek .moving .pos 499).gen.run = some openRun ∧
    (homingRun .seek .moving .pos 499).station = .running ∧
    (homingRun .seek .moving .pos 499).homing.travelUsed < 500 ∧
    (homingRun .seek .moving .pos 499).cfg.followingWindow = 0 ∧ openRun.kind = .openRun ∧
    openRun.count = none ∧ openRun.commitWatch = false ∧
    (homingRun .seek .moving .pos 499).gen.phase = .accelerating ∧
    (homingRun .seek .moving .pos 500).homing.travelLimit ≤ 500 ∧
    (at_ .stopping (homingRun .seek .moving .pos 500)).station = .stopping := by decide +kernel

/-- A run in braking, its next step at a rate. -/
def lastBraking (rate : Nat) : Run :=
  { run with emitted := 10, baseRate := 8, baseSteps := 3, nextRate := rate }
def brakingWith (d : Disposition) (rate : Nat) : State :=
  inRun .braking 4 (lastBraking rate)
    (holding .stopping { act (move 20) with
      disposition := some d, reserved := decide (d = .preempt) })

theorem witness_BrakingEndsByItsDisposition :
    (brakingWith .abort 2).station = .stopping ∧
    (brakingWith .abort 2).seq.active = some { act (move 20) with disposition := some .abort } ∧
    (act (move 20)).work.kind = .move ∧ (brakingWith .abort 2).cfg.followingWindow = 0 ∧
    (brakingWith .abort 2).gen.phase = .braking ∧
    (brakingWith .abort 2).gen.run = some (lastBraking 2) ∧ (lastBraking 2).count = some 20 ∧
    (lastBraking 2).commitWatch = false ∧
    (lastBraking 2).emitted + 1 < 20 ∧ (lastBraking 3).profile.fs < (lastBraking 3).nextRate ∧
    (lastBraking 2).nextRate ≤ (lastBraking 2).profile.fs ∧ (act (move 20)).faultEnded = false ∧
    (brakingWith .abort 2).noWork ∧ (paused (brakingWith .pause 2)).seq.paused = true ∧
    (paused (brakingWith .pause 2)).queue.entries = [] ∧
    (paused (brakingWith .pause 2)).stack.residuals.length < 3 ∧
    3 ≤ (stacked [residual, residual, residual] (paused (brakingWith .pause 2))).stack.residuals.length ∧
    (halted1 (brakingWith .halt 2)).seq.paused = false ∧
    (halted1 (brakingWith .halt 2)).groupHalted 1 = true ∧
    (queued [insert (dwell 4)] (brakingWith .preempt 2)).queue.entries = insert (dwell 4) :: [] ∧
    (insert (dwell 4)).barrier = none ∧
    (queued [insert (dwell 4)] (brakingWith .preempt 2)).groupHalted 1 = false ∧
    (queued [insert (dwell 4)] (brakingWith .preempt 2)).drive.clear = .none := by decide +kernel

/-- A CHAIN run one step before its commit point, and at its last step with the successor bound. -/
def chainRun : Run := { run with emitted := 14, baseSteps := 14, commitWatch := true }
def chained (l : List QueueEntry) : State :=
  queued l (inRun .cruising 8 chainRun (holding .running (act { move 20 with chain := true })))
def handing : State :=
  queued [{ move 4 with bound := true }]
    (inRun .cruising 8 { run with emitted := 19, endRate := 8 }
      (holding .running { act { move 20 with chain := true } with bound := some (move 4) }))

theorem witness_ChainBindsAndHandsOver :
    (chained [move 4]).station = .running ∧
    (chained [move 4]).seq.active = some (act { move 20 with chain := true }) ∧
    (chained [move 4]).cfg.followingWindow = 0 ∧ (chained [move 4]).gen.run = some chainRun ∧
    chainRun.kind = .counted ∧ chainRun.count = some 20 ∧ chainRun.commitWatch = true ∧
    chainRun.emitted + 1 < 20 ∧ (chained [move 4]).gen.phase = .cruising ∧
    0 < chainRun.profile.d ∧ 20 - (chainRun.emitted + 1) ≤ max 5 1 ∧
    (chained [move 4]).stack.residuals = [] ∧ (chained [move 4]).queue.entries = move 4 :: [] ∧
    (move 4).insert = false ∧ (move 4).barrier = none ∧ (chained [move 4]).groupHalted 1 = false ∧
    (chained [move 4]).seq.paused = false ∧ (chained [move 4]).gen.dir = .pos ∧
    (chained []).queue.entries = [] ∧
    handing.station = .running ∧ handing.gen.phase ≠ .standstill ∧ handing.gen.phase ≠ .braking ∧
    handing.gen.run = some { run with emitted := 19, endRate := 8 } ∧ 19 + 1 = 20 ∧
    handing.queue.entries = { move 4 with bound := true } :: [] ∧
    handing.limitActive handing.gen.dir = false ∧ (move 4).chain = false ∧
    handing.groupHalted 1 = false ∧ handing.gen.dir = .pos := by decide +kernel

theorem witness_UndisturbedRunEmitsItsCount :
    cruising.station = .running ∧ cruising.seq.active = some (act (move 20)) ∧
    (act (move 20)).work.kind = .move ∧ (act (move 20)).bound = none ∧
    (act (move 20)).faultEnded = false ∧ cruising.cfg.encoderMode = .off ∧ cruising.noWork ∧
    cruising.gen.run = some run ∧ run.kind = .counted ∧ run.count = some 20 ∧
    run.commitWatch = false ∧ cruising.gen.phase = .cruising ∧ run.emitted + 15 = 20 := by
  decide +kernel

theorem witness_HomingExitsAndCompletion :
    idle.loader.load = .loaded ∧ idle.activeKind ≠ some .home ∧ idle.drive.home ≠ true ∧
    (homing .index 2).station = .running ∧
    (homing .index 2).seq.active = some (act (homeEntry 2)) ∧ (act (homeEntry 2)).work.kind = .home ∧
    (homing .index 2).homing.phase = .index ∧ 2 ≤ (homing .index 2).homing.indexRemaining ∧
    (act (homeEntry 2)).faultEnded = false ∧ (homing .index 1).cfg.encoderMode = .off ∧
    (homing .index 1).noWork ∧ (homing .index 1).homing.indexRemaining = 1 ∧
    (homing .approach 0).homing.phase = .approach ∧ (homing .approach 0).homing.indexRemaining = 0 ∧
    (homing .approach 0).drive.home = false ∧ (homing .approach 1).homing.indexRemaining ≠ 0 ∧
    (homing .approach 1).limitActive (homing .approach 1).homing.dir = false ∧
    (inRun .cruising 8 run (homing .seek 0)).homing.phase = .seek ∧
    (inRun .cruising 8 run (homing .seek 0)).homing.leg = .moving ∧
    (inRun .cruising 8 run (homing .seek 0)).gen.phase = .cruising ∧
    run.profile.fs < (inRun .cruising 8 run (homing .seek 0)).gen.rate := by decide +kernel

def limited (d : Side) (s : State) : State := s.setDrive (match d with
  | .pos => { s.drive with limPos := true }
  | .neg => { s.drive with limNeg := true })
def atHome (s : State) : State := { s with drive := { s.drive with home := true } }
def seeingHome (s : State) : State := { s with homing := { s.homing with homeSeen := true } }
def clearanceOf (n : Nat) (s : State) : State := with_ { s.cfg with clearance := n } s
/-- The braking of SEEK at its last step, and a clearance at its last. -/
def seekBraking : State :=
  inRun .braking 3 { openRun with nextRate := 2 } (homingRun .seek .ending .pos 10)
def clearing1 (d : Side) : State :=
  let s := homingRun .clear .ending d 10
  { s with gen := { s.gen with run := some { openRun with kind := .counted, count := some 5 } } }

theorem witness_HomingExitsAndCompletion_limits :
    idle.loader.load = .loaded ∧ idle.activeKind ≠ some .home ∧
    (with_ { cfg with encoderMode := .quad4, settleWindow := 1 } (homing .approach 0)).noWork ∧
    (homingRun .seek .moving .pos 499).homing.phase = .seek ∧
    (homingRun .seek .moving .pos 499).limitActive .pos = false ∧
    (homingRun .seek .moving .pos 499).limitActive .neg = false ∧
    (homingRun .seek .ending .pos 499).homing.leg = .ending ∧
    (limited .neg (homingRun .seek .moving .pos 499)).limitActive .neg = true ∧
    seekBraking.homing.phase = .seek ∧ seekBraking.homing.leg = .ending ∧
    seekBraking.gen.phase = .braking ∧ seekBraking.gen.run = some { openRun with nextRate := 2 } ∧
    seekBraking.gen.dir = .pos ∧ seekBraking.homing.travelUsed + 1 < 500 := by decide +kernel

theorem witness_HomingExitsAndCompletion_clear :
    (homingRun .clear .moving .neg 10).homing.phase = .clear ∧
    (homingRun .clear .moving .neg 10).homing.homeSeen = false ∧
    (homingRun .reverseSeek .ending .neg 10).homing.leg = .ending ∧
    (seeingHome (atHome (homingRun .clear .moving .neg 10))).homing.homeSeen = true ∧
    (seeingHome (atHome (homingRun .clear .moving .neg 10))).drive.home = true ∧
    (clearanceOf 0 (homingRun .clear .moving .neg 10)).cfg.clearance = 0 ∧
    (clearanceOf 1 (homingRun .clear .moving .neg 10)).cfg.clearance ≠ 0 ∧
    (homingRun .clear .moving .neg 10).gen.phase = .accelerating ∧ openRun.profile.fs < 7 ∧
    (clearing1 .neg).homing.phase = .clear ∧ (clearing1 .neg).homing.leg = .ending ∧
    (clearing1 .neg).gen.dir = opposite (clearing1 .neg).homing.dir ∧
    (clearing1 .neg).gen.run = some { openRun with kind := .counted, count := some 5 } ∧
    openRun.emitted + 1 = 5 ∧ (clearing1 .neg).homing.travelUsed + 1 < 500 ∧
    (limited .pos (clearing1 .neg)).limitActive .pos = true ∧
    (clearing1 .neg).drive.home = false ∧ (atHome (clearing1 .neg)).drive.home = true ∧
    (atHome (clearing1 .neg)).homing.indexRemaining ≠ 0 ∧
    (atHome (clearing1 .neg)).cfg.encoderMode = .off ∧ (atHome (clearing1 .neg)).noWork := by
  decide +kernel

theorem witness_LimitStopsTheRecordThatStepsTowardIt :
    cruising.loader.load = .loaded ∧ cruising.limitActive .pos ≠ true ∧
    cruising.limitActive .neg = false ∧ cruising.activeKind ≠ some .home ∧
    cruising.steppingToward .neg = false ∧ cruising.steppingToward .pos = true ∧
    cruising.seq.active = some (act (move 20)) ∧
    (homing .approach 1).seq.active = some (act (homeEntry 1)) ∧
    (homing .approach 1).station = .running ∧ (homing .approach 1).limitActive .neg = false ∧
    (homing .approach 1).homing.phase = .approach ∧ (homing .seek 1).homing.dir = .pos ∧
    (at_ .stopping (homingRun .seek .moving .pos 3)).station = .stopping ∧
    (at_ .stopping (homingRun .seek .moving .pos 3)).gen.dir = .pos := by decide +kernel

theorem witness_DriveFaultActsInEveryState :
    cruising.loader.load = .loaded ∧ cruising.drive.drvFlt ≠ true ∧ cruising.recordInv ∧
    cruising.station ≠ .offline ∧ listening.station = .offline ∧ listening.loader.load = .loaded ∧
    (faulted true).drive.drvFlt ≠ false := by decide +kernel

def counting (m : EncoderMode) (x : Station) : State :=
  { with_ { cfg with encoderMode := m } (at_ x idle) with
    encoder := { Encoder.reset with pair := some (false, false) } }

theorem witness_EncoderChangeIsCountedByItsMode :
    (counting .quad4 .idle).loader.load = .loaded ∧
    (counting .quad4 .idle).encoder.pair = some (false, false) ∧
    ((counting .quad4 .idle).drive.encA, (counting .quad4 .idle).drive.encB) = (false, false) ∧
    (true, false) ≠ (false, false) ∧ (counting .quad4 .idle).cfg.followingWindow = 0 ∧
    (counting .quad4 .idle).station ≠ .settling ∧ (counting .quad4 .idle).cfg.encoderMode = .quad4 ∧
    (counting .quad1 .offline).station = .offline ∧ (counting .quad2 .faulted).station = .faulted ∧
    (counting .quad2 .faulted).recordInv ∧ (counting .quad4 .idle).recordInv ∧
    (counting .off .idle).cfg.encoderMode = .off ∧
    1 ≤ (counting .upDown .idle).cfg.divisor ∧
    (counting .upDown .idle).encoder.remainder.natAbs < (counting .upDown .idle).cfg.divisor := by
  decide +kernel

/-- Windows of 3 for the following error and 1 for settling, in QUAD×4. -/
def watching (s : State) : State :=
  with_ { cfg with encoderMode := .quad4, followingWindow := 3, settleWindow := 1 } s
/-- The commanded position and the encoder position apart by so many steps. -/
def apart (n : Position) (s : State) : State :=
  { s with
    gen := { s.gen with position := n }
    encoder := { s.encoder with position := 0, pair := some (false, false) } }

/-- An edge down from an error of 3 leaves the following window; an edge up from 2 comes within the settle
window and from 3 does not; a step from 3 leaves the following window; and a last step from 0 stays
within the settle window and from 1 leaves it. -/
theorem witness_EncoderChangeIsCountedByItsMode_errors :
    (apart 3 (watching idle)).recordInv ∧ (apart 3 (watching idle)).cfg.encoderMode ≠ .off ∧
    ((3 - 0 : Position).toInt).natAbs ≤ 3 ∧ 3 < ((3 - (-1) : Position).toInt).natAbs ∧
    (apart 2 (watching (settling 1))).station = .settling ∧
    (apart 2 (watching (settling 1))).encoder.settle = some 1 ∧
    (apart 2 (watching (settling 1))).noWork ∧
    ((2 - 1 : Position).toInt).natAbs ≤ 1 ∧ 1 < ((3 - 1 : Position).toInt).natAbs ∧
    (apart 3 (watching cruising)).station = .running ∧
    (apart 3 (watching cruising)).gen.run = some run ∧ (apart 3 (watching cruising)).gen.dir = .pos ∧
    3 < ((4 - 0 : Position).toInt).natAbs ∧
    { run with emitted := 19 }.emitted + 1 = 20 ∧ ((1 - 0 : Position).toInt).natAbs ≤ 1 ∧
    1 < ((2 - 0 : Position).toInt).natAbs := by decide +kernel

def clearing (x : ClearState) (s : State) : State := { s with drive := { s.drive with clear := x } }

theorem witness_PulseThenHoldoffThenDispatch :
    idle.drive.clear ≠ .pulse ∧ idle.drive.clear ≠ .hold ∧ (clearing .pulse idle).cfg.holdoff ≠ 0 ∧
    (clearing .pulse idle).drive.clear = .pulse ∧
    (with_ { cfg with holdoff := 0 } (clearing .pulse cruising)).cfg.holdoff = 0 ∧
    (with_ { cfg with holdoff := 0 } (clearing .pulse cruising)).busy ∧
    (clearing .hold cruising).drive.clear = .hold ∧ (clearing .hold cruising).busy ∧
    (clearing .hold (queued [dwell 4] idle)).station = .idle ∧
    (clearing .hold (queued [dwell 4] idle)).seq.paused = false ∧
    (clearing .hold (queued [dwell 4] idle)).stack.residuals = [] ∧
    (clearing .hold (queued [dwell 4] idle)).queue.entries = dwell 4 :: [] ∧
    (clearing .hold (queued [dwell 4] idle)).groupHalted 1 = false ∧
    (clearing .hold (queued [dwell 4] idle)).cfg.followingWindow = 0 := by decide +kernel

def homed (s : State) : State := { s with seq := { s.seq with homed := true } }
def goto (p : Position) : QueueEntry := { move 1 with body := .goto p }
/-- IDLE at the end of the holdoff with one candidate. -/
def candidate (e : QueueEntry) : State := clearing .hold (queued [e] idle)
/-- Station 1 present at a position. -/
def leads (p : Position) (s : State) : State :=
  hears 1 ⟨.present, 0, true, some ⟨p, ⟨false, false, 0, 0, 0, 0, 0⟩, [], 0⟩⟩ s

/-- A distance of 16,777,215 is in range and the next is not. -/
theorem witness_PulseThenHoldoffThenDispatch_starts :
    (candidate (move 2)).limitActive .pos = false ∧ (move 2).chain = false ∧
    (2 : Int) ≤ (2 : Int).natAbs ∧ (limited .neg (candidate (move (-2)))).limitActive .neg = true ∧
    (candidate (goto 5)).seq.homed = false ∧ (homed (candidate (goto 5))).seq.homed = true ∧
    16777215 < ((16777216 - 0 : Position).toInt).natAbs ∧
    ((16777215 - 0 : Position).toInt).natAbs ≤ 16777215 ∧
    ((0 - (homed (candidate (goto 0))).gen.position : Position).toInt) = 0 ∧
    ((candidate followEntry).peer 1).presence ≠ .present ∧
    ((leads 9 (candidate followEntry)).peer 1).presence = .present ∧
    ((leads 9 (candidate followEntry)).peer 1).status.isSome = true ∧
    (candidate (homeEntry 1)).drive.home = false ∧ (atHome (candidate (homeEntry 1))).drive.home = true ∧
    (limited .pos (candidate (homeEntry 1))).limitActive .pos = true ∧
    (limited .neg (limited .pos (candidate (homeEntry 1)))).limitActive .neg = true := by
  decide +kernel

/-- A STATUS of a leader at a position; 11 is one beyond the catch-up limit. -/
def leading (p : Byte) : List Byte := List.replicate 9 0 ++ [p] ++ List.replicate 39 0

theorem witness_FollowerConvertsWithoutLoss :
    0 < tracking.follow.den ∧ tracking.follow.remainder.natAbs < tracking.follow.den ∧
    tracking.link.state = .joined ∧ tracking.station = .running ∧
    tracking.seq.active = some (act followEntry) ∧ (act followEntry).work.kind = .follow ∧
    tracking.follow.phase = .tracking ∧ tracking.follow.leader ≠ tracking.own ∧
    tracking.barrier = none ∧
    (statusOf (leading 11)).any (fun p => decide (tracking.agrees p ∧
      tracking.cfg.catchUp < (tracking.follow.convert p.position).owed.natAbs)) = true := by
  decide +kernel

/-- A follower that owes steps, in a payment run of a count with a direction, and with a bound. -/
def following (f : Follow → Follow) (s : State) : State := { s with follow := f s.follow }
def paying (count : Nat) : Run := ⟨.flat, some count, 1, ⟨2, 8, 10, 7⟩, 2, 8, 1, false, 8⟩
def payingState (count : Nat) (owed : Int) : State :=
  following (fun f => { f with owed := owed, lastDir := some .pos })
    (inRun .flat 8 (paying count) tracking)

theorem witness_FollowerConvertsWithoutLoss_payment :
    tracking.genOk ∧ (payingState 3 2).genOk ∧ tracking.gen.run = none ∧
    (statusOf (leading 0)).any (fun p => decide ((tracking.follow.convert p.position).owed = 0)) =
      true ∧
    (statusOf (leading 2)).any (fun p => decide ((tracking.follow.convert p.position).owed = 2)) =
      true ∧
    (statusOf (leading 2)).any (fun p =>
      decide (((payingState 3 (-2)).follow.convert p.position).owed = 0)) = true ∧
    (statusOf (leading 2)).any (fun p =>
      decide (((payingState 3 (-5)).follow.convert p.position).owed = -3)) = true ∧
    (payingState 3 2).gen.dir = .pos ∧ (payingState 3 2).follow.lastDir = some (opposite .neg) ∧
    (limited .pos tracking).limitActive .pos = true := by decide +kernel

theorem witness_FollowerConvertsWithoutLoss_steps :
    (payingState 3 2).station = .running ∧ (payingState 3 2).seq.active = some (act followEntry) ∧
    (payingState 3 2).gen.run = some (paying 3) ∧ (paying 3).emitted + 1 < 3 ∧
    (paying 2).emitted + 1 = 2 ∧ (payingState 3 2).follow.turning = none ∧
    (following (fun f => { f with turning := some 1 }) (payingState 3 2)).follow.turning = some 1 ∧
    (following (fun f => { f with countBound := some 1 }) (payingState 2 1)).follow.countBound =
      some (payingState 2 1).follow.counted ∧
    (payingState 2 1).noWork ∧ (payingState 2 1).cfg.followingWindow = 0 := by decide +kernel

/-- A HOME that seeks, that brakes to leave SEEK and that creeps in APPROACH, a FOLLOW in a payment at 8
and one in a turn at 2, both with the start rate 2, and a MOVE at its start rate. -/
theorem witness_StopBrakesOrEndsARunningMove_kinds :
    (homingRun .seek .moving .pos 3).addressed 5 ∧ (homingRun .seek .moving .pos 3).station = .running ∧
    (homingRun .seek .moving .pos 3).seq.active = some (act (homeEntry 1)) ∧
    (act (homeEntry 1)).work.kind = .home ∧ (act followEntry).work.kind = .follow ∧
    (homingRun .seek .moving .pos 3).gen.run = some openRun ∧
    (homingRun .seek .moving .pos 3).gen.phase = .accelerating ∧
    openRun.profile.fs < (homingRun .seek .moving .pos 3).gen.rate ∧
    seekBraking.gen.phase = .braking ∧ seekBraking.station = .running ∧
    (inRun .flat 2 (Run.flatAt 2 none ⟨2, 8, 10, 7⟩) (homing .approach 1)).gen.phase = .flat ∧
    (Run.flatAt 2 none ⟨2, 8, 10, 7⟩).baseRate ≤ (Run.flatAt 2 none ⟨2, 8, 10, 7⟩).profile.fs ∧
    (homing .approach 1).noWork ∧
    (payingState 3 2).station = .running ∧ (payingState 3 2).seq.active = some (act followEntry) ∧
    (payingState 3 2).follow.phase = .tracking ∧ (paying 3).profile.fs < (paying 3).baseRate ∧
    tracking.gen.phase = .standstill ∧ tracking.noWork ∧
    (inRun .accelerating 2 run cruising).gen.rate ≤ run.profile.fs ∧ run.count = some 20 ∧
    cruising.queue.entries = [] ∧ cruising.stack.residuals.length < 3 := by decide +kernel

/-- A PAUSE of a HOME in APPROACH, whose flat run is at the start rate, ends it ABORTED and sets the latch,
and one of a FOLLOW in a payment brakes it under ABORT (R45, R46, R137, R148). -/
theorem test_pause_of_homing_and_following :
    (after (.stop 1 5 [3]) (inRun .flat 2 (Run.flatAt 2 none ⟨2, 8, 10, 7⟩) (homing .approach 1))).seq =
      { idle.seq with paused := true, lastFinished := some (9, .aborted) } ∧
    (after (.stop 1 5 [3]) (payingState 3 2)).station = .stopping ∧
    (after (.stop 1 5 [3]) (payingState 3 2)).follow.phase = .ceased := by decide +kernel

/-! ### Witnesses of the clauses on work that waits, resumes and is told -/

def indexed (s : State) : State := { s with drive := { s.drive with encZ := true } }

theorem witness_StepRunsTheFrontCommand_idle :
    (indexed idle).pending = [] ∧ (indexed idle).drive.encZ = true ∧ idle.drive.encZ = false := by
  decide

/-- Barrier numbers 4 and 130 are later than 3 by 1 and 127, and 131 and 2 are not later. -/
def numbered (n : Byte) : List Byte := (advertised 1 99 0x22).set 24 n

theorem witness_BarrierArmsAndComputesS_numbers :
    (statusOf (numbered 4)).any (fun p => decide ((p.adv.number - record.number).toNat = 1)) = true ∧
    (statusOf (numbered 130)).any (fun p =>
      decide ((p.adv.number - record.number).toNat = 127)) = true ∧
    (statusOf (numbered 131)).any (fun p =>
      decide ((p.adv.number - record.number).toNat = 128)) = true ∧
    (statusOf ((advertised 1 99 0x22).set 25 1)).any (fun p => decide (p.adv.number = record.number ∧
      p.adv.epoch ≠ record.epoch)) = true ∧
    (statusOf ((advertised 1 99 0x22).set 23 2)).any (fun p =>
      decide (p.adv.group.toNat ≠ record.group)) = true := by decide +kernel

/-- ARMED for the residual on top of the stack. -/
def barrierResidual : Residual := { residual with barrier := some block }
def armedTop : State := stacked [barrierResidual, residual] (queued [move 2, dwell 4] (armed record))
def heldWork : State := at_ .held (halted1 (stacked [residual] (queued [dwell 4, move 2] idle)))

theorem witness_FlushRemovesItsScope_places :
    (0 : Byte) ≠ 1 ∧ (4 : Byte) ≠ 3 ∧ armedTop.addressed 5 ∧ armedTop.station = .armed ∧
    armedTop.stack.residuals = barrierResidual :: [residual] ∧
    (∀ e ∈ armedTop.queue.entries, e.insert = false) ∧
    (stacked [residual] (queued [insert (dwell 4), move 2] (armed record))).queue.entries =
      insert (dwell 4) :: [move 2] ∧
    heldWork.station = .held ∧ ¬heldWork.noWork ∧ heldWork.chainInv := by decide +kernel

def endingFault (s : State) : State :=
  { s with seq := { s.seq with active := s.seq.active.map (fun a => { a with faultEnded := true }) } }

theorem witness_StopAndContinueByStationState_stopping :
    heldWork.seq.paused = false ∧ (∀ e ∈ heldWork.queue.entries, e.insert = false) ∧
    (endingFault (brakingWith .abort 2)).seq.active =
      some { act (move 20) with disposition := some .abort, faultEnded := true } ∧
    (brakingWith .abort 2).addressed 5 ∧ (brakingWith .abort 2).station = .stopping ∧
    (brakingWith .abort 2).noWork ∧
    (paused (brakingWith .pause 2)).seq.active =
      some { act (move 20) with disposition := some .pause } ∧
    (paused (brakingWith .pause 2)).gen.run = some (lastBraking 2) ∧
    (halted1 (brakingWith .halt 2)).groupHalted 1 = true ∧
    (queued [insert (dwell 4)] (brakingWith .preempt 2)).queue.entries = insert (dwell 4) :: [] := by
  decide +kernel

theorem witness_ReleaseClearsTheNamedEpoch_armed :
    (armed record).addressed 5 ∧ (armed record).groups.length = 15 ∧
    ((armed record).group 1).synchronised = false ∧ (armed record).barrier = some record ∧
    record.group = (1 : Byte).toNat ∧ record.group ≠ (2 : Byte).toNat ∧ record.epoch ≠ 5 ∧
    record.epoch = ((armed record).group 1).epoch ∧ (armed record).own < 32 ∧
    { record with mask := 0x20 }.mask = 1#32 <<< (armed record).own ∧ 0 < cfg.lead ∧
    record.mask.getLsbD 1 = true ∧ ((armed record).peer 1).presence = .unknown ∧
    (∀ m, m < 32 → m ≠ (armed record).own → record.mask.getLsbD m = true →
      ((armed record).peer m).presence = .unknown) := by decide +kernel

/-- A STATUS body with an epoch and a condition for group 1 and (0, CLEAR) for the others. -/
def vectored (epoch halted : Byte) : List Byte :=
  List.replicate 32 0 ++ [epoch] ++ List.replicate 14 0 ++ [halted, 0]

/-- Station 2 is no member of the barrier of `record`. -/
theorem witness_StatusIsWrittenAndItsVectorAdopted_acts :
    2 ≠ cruising.own ∧ record.mask.getLsbD 2 = false ∧ (armed record).armedOk = true ∧
    (statusOf (vectored 1 1)).any (fun p => decide (p.epochs.getD 0 0 = 1 ∧
      p.haltedMask.getLsbD 0 = true)) = true ∧
    (statusOf (vectored 5 0)).any (fun p => decide (p.epochs.getD 0 0 = 5 ∧
      p.haltedMask.getLsbD 0 = false)) = true ∧
    cruising.groupHalted 1 = false ∧ (cruising.group 1).synchronised = false ∧
    cruising.seq.active = some (act (move 20)) ∧ cruising.gen.run = some run ∧
    run.profile.fs < cruising.gen.rate ∧ cruising.follow.phase = .none ∧
    (armed record).seq.paused = false ∧ ((armed record).group record.group).epoch = record.epoch ∧
    idle.noWork ∧ idle.barrier = none ∧ (queued [dwell 4] idle).queue.entries = dwell 4 :: [] ∧
    (queued [dwell 4] idle).groupHalted 1 = false ∧
    ((halted1 idle).group 1).epoch = 4 ∧ (at_ .settling (settling 1)).station = .settling := by
  decide +kernel

theorem witness_BrakingEndsByItsDisposition_dwell :
    (dwelling 104).addressed 5 ∧ (dwelling 104).station = .running ∧
    (dwelling 104).seq.active = some { act (dwell 4) with dwellEnd := some 104 } ∧
    (dwelling 104).follow.phase = .none ∧ (dwelling 104).noWork ∧
    (queued [move 2] (dwelling 101)).queue.entries = [move 2] ∧
    (stacked [residual, residual] (dwelling 101)).stack.residuals.length < 3 ∧
    (1 : Byte).toNat = (act (dwell 4)).work.group ∧ ((dwelling 104).group 1).condition = .clear ∧
    (dwelling 104).seq.paused = false ∧ (dwelling 104).groups.length = 15 ∧
    segmentOf 5 8 cfg.defaultProfile [0, 4, 1, 1, 4, 0] = some { insert (dwell 4) with tag := 0 } ∧
    byteAt [0, 4, 1, 1, 4, 0] 0 = (dwelling 104).queue.expected ∧
    (dwelling 104).groupHalted 1 = false ∧ (dwelling 104).drive.clear = .none := by decide +kernel

/-- IDLE at the end of the holdoff with a residual on top of another. -/
def resuming (r : Remaining) : State :=
  clearing .hold (stacked [{ residual with remaining := r }, residual] (queued [move 2] idle))

theorem witness_PulseThenHoldoffThenDispatch_invariants :
    ((candidate (move 2)).motionInv ∧ (resuming (.dwell 3)).motionInv) ∧
    (candidate (move 2)).chainInv ∧ (resuming (.dwell 3)).chainInv :=
  have standing {s : State} (h : s.recordInv ∧ s.genOk ∧ s.motionOk ∧ s.homingOk = true ∧ s.followOk)
      (hs : s.steppingToward .pos = false ∧ s.steppingToward .neg = false) : s.motionInv :=
    ⟨h.1, h.2.1, h.2.2.1, h.2.2.2.1, h.2.2.2.2, fun d hd => by cases d <;> simp_all⟩
  ⟨⟨standing (by decide +kernel) (by decide +kernel), standing (by decide +kernel) (by decide +kernel)⟩,
    by decide +kernel⟩

theorem witness_PulseThenHoldoffThenDispatch_residuals :
    (resuming (.dwell 3)).drive.clear = .hold ∧ (resuming (.dwell 3)).station = .idle ∧
    (resuming (.dwell 3)).stack.residuals = { residual with remaining := .dwell 3 } :: [residual] ∧
    (∀ e ∈ (resuming (.dwell 3)).queue.entries, e.insert = false) ∧
    (paused (resuming (.dwell 3))).seq.paused = true ∧
    (halted1 (resuming (.dwell 3))).groupHalted 1 = true ∧
    (resuming (.dwell 3)).groupHalted 1 = false ∧ residual.barrier = none ∧
    (resuming (.move (-2))).limitActive .neg = false ∧ (2 : Nat) ≤ (-2 : Int).natAbs ∧
    (limited .pos (resuming (.move 4))).limitActive .pos = true ∧
    (resuming (.goto 9)).seq.homed = false ∧ (homed (resuming (.goto 9))).seq.homed = true ∧
    block.mask.getLsbD 1 = true ∧ ((resuming (.dwell 3)).peer 1).presence = .unknown ∧
    (∀ m, m < 32 → m ≠ idle.own → block.mask.getLsbD m = true →
      ((resuming (.dwell 3)).peer m).presence = .unknown) := by decide +kernel

theorem witness_FollowerConvertsWithoutLoss_range :
    (following (fun f => { f with followed := 16777214 }) tracking).follow.followed < 16777215 ∧
    (following (fun f => { f with followed := 16777214 }) tracking).follow.counted = 16777215 := by
  decide +kernel

theorem witness_invariants_chain :
    handing.chainInv ∧ (chained [move 4]).chainInv ∧ cruising.chainInv := by decide +kernel

theorem witness_invariants :
    (idle.queueOk ∧ idle.stackOk ∧ idle.sizesOk ∧ idle.countersOk ∧ (armed record).barrierInv) ∧
    step { cruising with pending := [.stepDue] } = .next (after .stepDue cruising) :=
  ⟨by decide +kernel, rfl⟩

theorem witness_invariants_motion :
    cruising.recordInv ∧ cruising.genOk ∧ cruising.motionOk ∧ cruising.homingOk = true ∧
    tracking.followOk ∧ cruising.limitActive .pos = false ∧ cruising.limitActive .neg = false ∧
    (faulted true).faultInv := by decide +kernel

end Sys2Proof.Tests
end

/-! ## Proofs: the Segment Queue takes a SEGMENT (R12) -/

namespace Sys2Proof.Machine

/-- A SEGMENT addressed to the station goes to the Segment Queue (R171). -/
theorem exec_segment_of_addressed (s : State) (sender : Nat) (dest : Byte) (body : List Byte)
    (h : s.addressed dest) : exec (.segment sender dest body) s = .next (s.takeSegment body) :=
  congrArg Host.Outcome.next (if_pos ((s.takes_iff dest).2 h))

/-! ### The four classes of R12 -/

/-- Too short for the fixed part: refused with tag none, before any tag comparison. -/
theorem State.takeSegment_of_short (s : State) (body : List Byte) (h : body.length < 4) :
    s.takeSegment body = s.refuse .segment none .badField := if_pos h

/-- With a complete fixed part the distance of the tag alone decides. -/
theorem State.takeSegment_of_complete (s : State) (body : List Byte) (h : 4 ≤ body.length) :
    s.takeSegment body =
      if dist8 s.queue.expected (byteAt body 0) = 0 then s.takeCurrent body
      else if dist8 s.queue.expected (byteAt body 0) ≤ 128 then s
      else s.refuse .segment (some (byteAt body 0)) .tagGap := if_neg (by omega)

theorem State.takeSegment_of_current (s : State) (body : List Byte) (h : 4 ≤ body.length)
    (hd : dist8 s.queue.expected (byteAt body 0) = 0) : s.takeSegment body = s.takeCurrent body := by
  rw [s.takeSegment_of_complete body h, if_pos hd]

theorem State.takeSegment_of_duplicate (s : State) (body : List Byte) (h : 4 ≤ body.length)
    (hd : 1 ≤ dist8 s.queue.expected (byteAt body 0))
    (hd' : dist8 s.queue.expected (byteAt body 0) ≤ 128) : s.takeSegment body = s := by
  rw [s.takeSegment_of_complete body h, if_neg (by omega), if_pos hd']

theorem State.takeSegment_of_gap (s : State) (body : List Byte) (h : 4 ≤ body.length)
    (hd : 129 ≤ dist8 s.queue.expected (byteAt body 0)) :
    s.takeSegment body = s.refuse .segment (some (byteAt body 0)) .tagGap := by
  rw [s.takeSegment_of_complete body h, if_neg (by omega), if_neg (by omega)]

/-- Settles O27: the SEGMENT reaches the queue, and each clause is one class of R12. -/
theorem segmentTagIsClassified : Obligations.SegmentTagIsClassified := by
  intro s sender dest body ha
  rw [exec_segment_of_addressed s sender dest body ha]
  refine ⟨fun hshort => ?short, fun hlen => ⟨fun hd => ?current, fun hd hd' => ?duplicate,
    fun hd => ?gap⟩⟩
  case short => rw [s.takeSegment_of_short body hshort, s.refuse_eq]
  case current => rw [s.takeSegment_of_current body hlen hd]
  case duplicate => rw [s.takeSegment_of_duplicate body hlen hd hd']
  case gap => rw [s.takeSegment_of_gap body hlen hd, s.refuse_eq]

end Sys2Proof.Machine

/-! ## Proofs: SET_POSITION at the Motion Sequencer (R51) -/

namespace Sys2Proof.Machine

/-- A SET_POSITION addressed to the station goes to the Motion Sequencer (R171). -/
theorem exec_setPosition_of_addressed (s : State) (sender : Nat) (dest : Byte) (body : List Byte)
    (h : s.addressed dest) :
    exec (.setPosition sender dest body) s = .next (s.takeSetPosition body) :=
  congrArg Host.Outcome.next (if_pos ((s.takes_iff dest).2 h))

/-! ### What an accepted write does -/

/-- The writes of R51 with their frame: the four fields named here change and nothing else does. -/
theorem State.doSetPosition_eq (s : State) (p : Position) (homed : Bool) :
    s.doSetPosition p homed = { s with
      gen := { s.gen with position := p }
      encoder := { s.encoder with position := p, remainder := 0 }
      seq := { s.seq with homed := s.seq.homed || homed } } := rfl

theorem diff32_self (p : Position) : diff32 p p = 0 := by
  rw [diff32, BitVec.sub_self, BitVec.toInt_zero]

/-- Commanded and encoder position are the one written value. -/
theorem State.doSetPosition_followingError (s : State) (p : Position) (homed : Bool) :
    (s.doSetPosition p homed).followingError = 0 := diff32_self p

/-! ### The outcome by body length and station state -/

theorem State.takeSetPosition_of_wrongLength (s : State) (body : List Byte) (h : body.length ≠ 5) :
    s.takeSetPosition body = s.refuse .setPosition none .badField := if_pos h

/-- The station states with an active record. -/
theorem State.takeSetPosition_of_activeRecord (s : State) (body : List Byte) (hlen : body.length = 5)
    (h : s.station = .running ∨ s.station = .stopping ∨ s.station = .settling) :
    s.takeSetPosition body = s.refuse .setPosition none .state := by
  rw [State.takeSetPosition, if_neg (not_not_intro hlen)]
  rcases h with h | h | h <;> rw [h]

/-- The station states of a started station without an active record. -/
theorem State.takeSetPosition_of_noActiveRecord (s : State) (body : List Byte)
    (hlen : body.length = 5)
    (h : s.station = .idle ∨ s.station = .held ∨ s.station = .armed ∨ s.station = .faulted) :
    s.takeSetPosition body = s.doSetPosition (position32 body 0) ((byteAt body 4).getLsbD 0) := by
  rw [State.takeSetPosition, if_neg (not_not_intro hlen)]
  rcases h with h | h | h | h <;> rw [h]

/-- Settles O34: the message reaches the sequencer, and the body length and the station state decide
between the two refusals of R51 and the write. -/
theorem setPositionWritesBothPositions : Obligations.SetPositionWritesBothPositions := by
  intro s sender dest body ha
  rw [exec_setPosition_of_addressed s sender dest body ha]
  refine ⟨fun hlen => ?wrongLength, fun hlen => ⟨fun hs => ?activeRecord, fun hs => ?write⟩⟩
  case wrongLength => rw [s.takeSetPosition_of_wrongLength body hlen, s.refuse_eq]
  case activeRecord => rw [s.takeSetPosition_of_activeRecord body hlen hs, s.refuse_eq]
  case write =>
    rw [s.takeSetPosition_of_noActiveRecord body hlen hs]
    exact ⟨_, rfl, s.doSetPosition_eq _ _, s.doSetPosition_followingError _ _⟩

end Sys2Proof.Machine

/-! ## Proofs: the group table under one claim (R112, R114) -/

namespace Sys2Proof.Machine

/-- A HALT addressed to the station goes to the Group Halt Unit (R171). -/
theorem exec_halt_of_addressed (s : State) (sender : Nat) (dest : Byte) (body : List Byte)
    (h : s.addressed dest) : exec (.halt sender dest body) s = .next (s.takeHalt sender body) :=
  congrArg Host.Outcome.next (if_pos ((s.takes_iff dest).2 h))

theorem groupOk_iff (b : Byte) : groupOk b = true ↔ 1 ≤ b.toNat ∧ b.toNat ≤ 15 := by
  simp [groupOk]

theorem State.takeHalt_of_group (s : State) (sender : Nat) (g : Byte) (h1 : 1 ≤ g.toNat)
    (h15 : g.toNat ≤ 15) : s.takeHalt sender [g] = s.raiseHalt g.toNat .commanded sender :=
  if_pos ⟨rfl, (groupOk_iff g).2 ⟨h1, h15⟩⟩

theorem State.takeHalt_of_noGroup (s : State) (sender : Nat) (g : Byte)
    (h : g = 0 ∨ 15 < g.toNat) : s.takeHalt sender [g] = s.refuse .halt none .badField := by
  refine if_neg fun ⟨_, hok⟩ => ?_
  obtain ⟨h1, h15⟩ := (groupOk_iff g).1 hok
  rcases h with rfl | h
  · exact absurd h1 (by decide)
  · omega

theorem State.takeHalt_of_wrongLength (s : State) (sender : Nat) (body : List Byte)
    (h : body.length ≠ 1) : s.takeHalt sender body = s.refuse .halt none .badField :=
  if_neg fun hok => h hok.1

/-! ### Writing one entry -/

/-- The entry of a group written back, also for a group the table does not hold. -/
theorem State.setGroup_group (s : State) (g : Nat) : s.setGroup g (s.group g) = s := by
  by_cases hg : g = 0
  · exact if_pos hg
  · have hset : s.groups.set (g - 1) (s.groups.getD (g - 1) .reset) = s.groups := by
      by_cases hl : g - 1 < s.groups.length
      · rw [List.getD_eq_getElem _ _ hl, List.set_getElem_self]
      · exact List.set_eq_of_length_le (Nat.le_of_not_lt hl)
    rw [State.setGroup, State.group, if_neg hg, if_neg hg, hset]; rfl

/-- A write to one group leaves the entry of every other. -/
theorem State.group_setGroup_of_ne (s : State) {g h : Nat} (x : GroupEntry) (hne : h ≠ g) :
    (s.setGroup g x).group h = s.group h := by
  by_cases hg : g = 0
  · rw [State.setGroup, if_pos hg]
  · by_cases hh : h = 0
    · rw [State.group, State.group, if_pos hh, if_pos hh]
    · have hidx : g - 1 ≠ h - 1 := by omega
      simp [State.setGroup, State.group, hg, hh, List.getElem?_set_ne hidx]

theorem GroupEntry.moved_self (x : GroupEntry) : x.moved x = false := by
  simp [GroupEntry.moved]

/-! ### Telling a change (R112) -/

/-- A table that has not changed tells nothing. -/
theorem State.tellChanges_self (s : State) : s.tellChanges s = s := by
  simp [State.tellChanges, GroupEntry.moved_self]

/-- A write that moves the state of one group of the table is told for that group alone. -/
theorem State.tellChanges_setGroup (s : State) (g : Nat) (x : GroupEntry) (h1 : 1 ≤ g)
    (h15 : g ≤ 15) (hl : s.groups.length = 15) (hm : (s.group g).moved x = true) :
    s.tellChanges (s.setGroup g x) = (s.setGroup g x).groupChanged g := by
  have hgroup := fun h => s.group_setGroup g h x (by omega) (by omega)
  have hmoved : ∀ h, (s.group h).moved ((s.setGroup g x).group h) = (h == g) := by
    intro h
    rw [hgroup h]
    by_cases e : h = g
    · rw [if_pos e, e, hm, beq_self_eq_true]
    · rw [if_neg e, GroupEntry.moved_self, beq_false_of_ne e]
  have hmem : g ∈ groupNumbers := by
    simp only [groupNumbers, List.mem_map, List.mem_range]
    exact ⟨g - 1, by omega, by omega⟩
  have hnodup : groupNumbers.Nodup := by decide
  rw [State.tellChanges, List.filter_congr fun h _ => hmoved h, List.filter_beq,
    List.count_eq_one_of_mem hnodup hmem]
  rfl

/-! ### Raising a halt (R114) -/

theorem GroupEntry.raise_of_halted (x : GroupEntry) (c : Cause) (o : Nat) (n : Cycle)
    (h : x.condition = .halted) : x.raise c o n = x := by
  rw [GroupEntry.raise, h]

theorem GroupEntry.raise_of_clear (x : GroupEntry) (c : Cause) (o : Nat) (n : Cycle)
    (h : x.condition = .clear) : x.raise c o n = ⟨x.epoch + 1, .halted, true, c, some o, n⟩ := by
  rw [GroupEntry.raise, h]; rfl

/-- A raised halt moves a CLEAR entry. -/
theorem GroupEntry.moved_raise_of_clear (x : GroupEntry) (c : Cause) (o : Nat) (n : Cycle)
    (h : x.condition = .clear) : x.moved (x.raise c o n) = true := by
  simp [GroupEntry.moved, x.raise_of_clear c o n h, h]

theorem State.raiseInTable_of_halted (s : State) (g : Nat) (c : Cause) (o : Nat)
    (h : (s.group g).condition = .halted) : s.raiseInTable g c o = s := by
  rw [State.raiseInTable, GroupEntry.raise_of_halted _ _ _ _ h, s.setGroup_group]

theorem State.raiseInTable_of_clear (s : State) (g : Nat) (c : Cause) (o : Nat) (hg : 1 ≤ g)
    (h : (s.group g).condition = .clear) : s.raiseInTable g c o = { s with
      groups := s.groups.set (g - 1)
        ⟨(s.group g).epoch + 1, .halted, true, c, some o, s.link.cycle⟩ } := by
  rw [State.raiseInTable, GroupEntry.raise_of_clear _ _ _ _ h]
  exact if_neg (by omega)

/-- The entry of a group whose halt has been raised from CLEAR. -/
theorem State.group_raiseInTable_of_clear (s : State) (g : Nat) (c : Cause) (o : Nat) (h1 : 1 ≤ g)
    (hl : g ≤ s.groups.length) (h : (s.group g).condition = .clear) :
    (s.raiseInTable g c o).group g =
      ⟨(s.group g).epoch + 1, .halted, true, c, some o, s.link.cycle⟩ := by
  rw [State.raiseInTable, s.group_setGroup g g _ (by omega) hl, if_pos rfl,
    GroupEntry.raise_of_clear _ _ _ _ h]

/-- A halt raised in a HALTED group changes nothing. -/
theorem State.raiseHalt_of_halted (s : State) (g : Nat) (c : Cause) (o : Nat)
    (h : (s.group g).condition = .halted) : s.raiseHalt g c o = s := by
  rw [State.raiseHalt, s.raiseInTable_of_halted g c o h, s.tellChanges_self]

/-- A halt raised in a CLEAR group is told as that group becoming HALTED. -/
theorem State.raiseHalt_of_clear (s : State) (g : Nat) (c : Cause) (o : Nat) (h1 : 1 ≤ g)
    (h15 : g ≤ 15) (hl : s.groups.length = 15) (h : (s.group g).condition = .clear) :
    s.raiseHalt g c o = (s.raiseInTable g c o).groupBecameHalted g := by
  have hhalted : ((s.raiseInTable g c o).group g).condition = .halted := by
    rw [s.group_raiseInTable_of_clear g c o h1 (by omega) h]
  have htold := s.tellChanges_setGroup g _ h1 h15 hl
    (GroupEntry.moved_raise_of_clear _ c o s.link.cycle h)
  rw [State.raiseHalt, State.raiseInTable, htold, ← State.raiseInTable, State.groupChanged, hhalted]

end Sys2Proof.Machine

/-! ## Proofs: a stop that brakes, and the station of a group that becomes HALTED (R46, R103, R123) -/

namespace Sys2Proof.Machine

/-- A run above its start rate, neither standing nor braking, needs braking (R66). -/
theorem Gen.stopsAtOnce_of_fast (g : Gen) (r : Run) (hr : g.run = some r)
    (hstand : g.phase ≠ .standstill) (hbrake : g.phase ≠ .braking)
    (hfast : r.profile.fs < g.stopRate r) : g.stopsAtOnce = false := by
  unfold Gen.stopsAtOnce
  split <;> simp_all

/-- Outside tracking a stop leaves the Follow Unit (R148). -/
theorem State.ceaseFollow_of_notTracking (s : State) (h : s.follow.phase ≠ .tracking) :
    s.ceaseFollow = s := if_neg h

/-- The stop of a record that does not track: unbound, with its disposition, it goes on to the stop of
its motion (R44, R46). -/
theorem State.beginStop_some (s : State) (d : Disposition) (immediate faultEnded : Bool) (a : Active)
    (ha : s.seq.active = some a) (hf : s.follow.phase ≠ .tracking) :
    s.beginStop d immediate faultEnded = State.stopMotion { s with
      queue := s.queue.unbound
      seq := { s.seq with active := some { a with
        disposition := some d, faultEnded := faultEnded, reserved := decide (d = .preempt),
        bound := none } } } immediate := by
  have hactive : s.unbind.seq.active = some { a with bound := none } :=
    by
    simp [State.unbind, ha]
  rw [State.beginStop, s.unbind.ceaseFollow_of_notTracking hf]
  simp only [hactive]
  rfl

/-- A decelerating stop that is not at standstill at once brakes (R66). -/
theorem State.stopMotion_brakes (s : State) (hk : s.activeKind ≠ some .dwell)
    (hs : s.gen.stopsAtOnce = false) :
    s.stopMotion false = (s.setGen s.gen.brake).setStation .stopping := by
  simp [State.stopMotion, hk, hs]

/-- The stop under HALT of a record in fast motion brakes it (R46, R123). -/
theorem State.stopForHalt_brakes (s : State) (a : Active) (ha : s.seq.active = some a)
    (hk : a.work.kind ≠ .dwell) (hf : s.follow.phase ≠ .tracking)
    (hs : s.gen.stopsAtOnce = false) :
    s.stopForHalt = { s with
      queue := s.queue.unbound
      seq := { s.seq with
        station := .stopping
        active := some { a with
          disposition := some .halt, faultEnded := false, reserved := false, bound := none } }
      gen := s.gen.brake } := by
  rw [State.stopForHalt, s.beginStop_some .halt false false a ha hf, State.stopMotion_brakes]
  · rfl
  · exact fun h => hk (Option.some.inj h)
  · exact hs

/-- A record that already stops or settles, a fault, or a running record of another group: the station
goes on (R123). -/
theorem State.groupBecameHalted_of_unaffected (s : State) (g : Nat)
    (h : s.station = .stopping ∨ s.station = .settling ∨ s.station = .faulted ∨
      (s.station = .running ∧ ∀ a, s.seq.active = some a → a.work.group ≠ g)) :
    s.groupBecameHalted g = s := by
  rcases h with h | h | h | ⟨hs, hother⟩
  · rw [State.groupBecameHalted, h]
  · rw [State.groupBecameHalted, h]
  · rw [State.groupBecameHalted, h]
  · have hnone : ¬ s.seq.active.any (fun a => decide (a.work.group = g)) = true := by
      simpa [Option.any_eq_true] using hother
    rw [State.groupBecameHalted, hs]
    exact if_neg hnone

/-- A running record of the group in fast motion brakes under HALT (R46, R123). -/
theorem State.groupBecameHalted_of_fastRecord (s : State) (g : Nat) (a : Active)
    (hs : s.station = .running) (ha : s.seq.active = some a) (hg : a.work.group = g)
    (hk : a.work.kind ≠ .dwell) (hf : s.follow.phase ≠ .tracking)
    (hfast : s.gen.stopsAtOnce = false) :
    s.groupBecameHalted g = { s with
      queue := s.queue.unbound
      seq := { s.seq with
        station := .stopping
        active := some { a with
          disposition := some .halt, faultEnded := false, reserved := false, bound := none } }
      gen := s.gen.brake } := by
  have hown : s.seq.active.any (fun a => decide (a.work.group = g)) = true := by simp [ha, hg]
  have hstopped : s.groupBecameHalted g = s.enterIdle s.stopForHalt := by
    rw [State.groupBecameHalted, hs]
    exact if_pos hown
  rw [hstopped, s.stopForHalt_brakes a ha hk hf hfast]
  exact s.enterIdle_other _ Station.noConfusion

/-- The arming for the group is cancelled (R103). -/
theorem State.groupBecameHalted_of_armed (s : State) (g : Nat) (b : BarrierRec)
    (hs : s.station = .armed) (hb : s.barrier = some b) (hg : b.group = g) :
    s.groupBecameHalted g = s.cancelArming := by
  rw [State.groupBecameHalted, hs]
  exact if_pos (by simp [hb, hg])

end Sys2Proof.Machine

/-! ## Proofs: dispatch leaves the entry of a HALTED group (R114, R115)

The operations that run within dispatch do nothing to the group table but raise halts, and raising a
halt leaves a HALTED entry. Most of them leave the whole table, which is said as an equation; the rest
are told by `HoldsHalt`. -/

namespace Sys2Proof.Machine

/-! ### Operations that leave the table -/

/-! #### Records -/

@[simp] theorem State.dropRecord_groups (s : State) : s.dropRecord.groups = s.groups := rfl
@[simp] theorem State.endRecord_groups (s : State) (r : Result) :
    (s.endRecord r).groups = s.groups := by
  simp only [State.endRecord]; split <;> simp
@[simp] theorem State.pushResidual_groups (s : State) (r : Residual) :
    (s.pushResidual r).groups = s.groups := by
  simp [State.pushResidual]
@[simp] theorem State.discardResidual_groups (s : State) (r : Result) :
    (s.discardResidual r).groups = s.groups := by
  simp [State.discardResidual]
@[simp] theorem State.reachStandstill_groups (s : State) : s.reachStandstill.groups = s.groups := by
  simp only [State.reachStandstill]; repeat' split
  all_goals simp
@[simp] theorem State.unbind_groups (s : State) : s.unbind.groups = s.groups := rfl
@[simp] theorem State.ceaseFollow_groups (s : State) : s.ceaseFollow.groups = s.groups := by
  simp only [State.ceaseFollow]; split <;> simp
@[simp] theorem State.stopMotion_groups (s : State) (b : Bool) :
    (s.stopMotion b).groups = s.groups := by
  simp only [State.stopMotion]; split <;> simp
@[simp] theorem State.beginStop_groups (s : State) (d : Disposition) (b c : Bool) :
    (s.beginStop d b c).groups = s.groups := by
  simp only [State.beginStop]; split <;> simp
@[simp] theorem State.stopForHalt_groups (s : State) : s.stopForHalt.groups = s.groups := by
  simp [State.stopForHalt]
@[simp] theorem State.settleTest_groups (s : State) : s.settleTest.groups = s.groups := by
  simp only [State.settleTest]; split <;> simp
@[simp] theorem State.enterSettling_groups (s : State) : s.enterSettling.groups = s.groups := by
  simp [State.enterSettling]
@[simp] theorem State.completeWork_groups (s : State) : s.completeWork.groups = s.groups := by
  simp only [State.completeWork]; repeat' split
  all_goals simp

/-! #### What a fault does beside the table -/

@[simp] theorem State.logFault_groups (s : State) (k : FaultKind) (t : Option Tag) :
    (s.logFault k t).groups = s.groups := rfl
@[simp] theorem State.faultWhileStopping_groups (s : State) (b : Bool) :
    (s.faultWhileStopping b).groups = s.groups := by
  simp only [State.faultWhileStopping]; split <;> simp
@[simp] theorem State.faultStation_groups (s : State) (b : Bool) :
    (s.faultStation b).groups = s.groups := by
  simp only [State.faultStation]; split <;> simp
@[simp] theorem State.clearHomedFor_groups (s : State) (k : FaultKind) :
    (s.clearHomedFor k).groups = s.groups := by
  simp only [State.clearHomedFor]; split <;> simp
@[simp] theorem State.startPulse_groups (s : State) : s.startPulse.groups = s.groups := by
  simp only [State.startPulse]; split <;> simp
@[simp] theorem State.pulseFor_groups (s : State) (k : FaultKind) :
    (s.pulseFor k).groups = s.groups := by
  simp only [State.pulseFor]; split <;> simp

/-! #### Motion -/

@[simp] theorem State.followStep_groups (s : State) : s.followStep.groups = s.groups := by
  simp only [State.followStep]; split <;> simp
@[simp] theorem State.homingStep_groups (s : State) : s.homingStep.groups = s.groups := rfl
@[simp] theorem State.reportStep_groups (s : State) : s.reportStep.groups = s.groups := by
  simp only [State.reportStep]; split <;> simp
@[simp] theorem State.paymentEnd_groups (s : State) : s.paymentEnd.groups = s.groups := by
  simp only [State.paymentEnd]; split <;> simp
@[simp] theorem State.commitPoint_groups (s : State) : s.commitPoint.groups = s.groups := by
  simp only [State.commitPoint]; repeat' split
  all_goals simp
@[simp] theorem State.orderRun_groups (s : State) (w : Work) (n : Int) (f : Nat) :
    (s.orderRun w n f).groups = s.groups := by
  simp only [State.orderRun]; split <;> simp
@[simp] theorem State.takeCandidate_groups (s : State) (x : Source) :
    (s.takeCandidate x).groups = s.groups := by
  simp only [State.takeCandidate]; split <;> simp

/-! ### Operations that may raise halts -/

/-- Entry `i` of a group table is `x`, and its group is HALTED. -/
def HoldsHalt (t : List GroupEntry) (i : Nat) (x : GroupEntry) : Prop :=
  t[i]? = some x ∧ x.condition = .halted

/-- The table of a station whose group `g` is HALTED holds that halt. -/
theorem State.holdsHalt_group (s : State) (g : Nat) (h1 : 1 ≤ g) (hl : g ≤ s.groups.length)
    (h : (s.group g).condition = .halted) : HoldsHalt s.groups (g - 1) (s.group g) := by
  refine ⟨?_, h⟩
  rw [State.group, if_neg (by omega), List.getD_eq_getElem _ _ (by omega)]
  exact List.getElem?_eq_getElem _

/-- The entry of a group whose halt the table holds. -/
theorem State.group_of_holdsHalt (s : State) (g : Nat) (x : GroupEntry) (h1 : 1 ≤ g)
    (h : HoldsHalt s.groups (g - 1) x) : s.group g = x := by
  obtain ⟨hentry, -⟩ := h
  rw [State.group, if_neg (by omega), List.getD_eq_getElem?_getD, hentry]; rfl

namespace HoldsHalt

variable {s : State} {i : Nat} {x : GroupEntry}

/-- An operation that leaves the table keeps what it holds. -/
theorem of_groups_eq {u : State} (h : HoldsHalt s.groups i x) (e : u.groups = s.groups) :
    HoldsHalt u.groups i x := by
  rwa [e]

/-- A fold of operations that keep a halt keeps it. -/
theorem foldl {α : Type} {f : State → α → State} {l : List α} (h : HoldsHalt s.groups i x)
    (hf : ∀ {s : State} {a : α}, HoldsHalt s.groups i x → HoldsHalt (f s a).groups i x) :
    HoldsHalt (l.foldl f s).groups i x := by
  induction l generalizing s with
  | nil => exact h
  | cons a l ih => exact ih (hf h)

/-- Raising the halt of a HALTED group leaves its entry, as raising that of another does (R114). -/
theorem raiseInTable {k : Nat} {c : Cause} {o : Nat} (h : HoldsHalt s.groups i x) :
    HoldsHalt (s.raiseInTable k c o).groups i x := by
  obtain ⟨hentry, hhalted⟩ := h
  by_cases hk : k ≠ 0 ∧ k - 1 = i
  · obtain ⟨hk0, rfl⟩ := hk
    have hgroup := s.group_of_holdsHalt k x (by omega) ⟨hentry, hhalted⟩
    rw [s.raiseInTable_of_halted k c o (by rw [hgroup, hhalted])]
    exact ⟨hentry, hhalted⟩
  · refine ⟨?_, hhalted⟩
    unfold State.raiseInTable State.setGroup
    split
    · exact hentry
    · rw [State.setGroups_groups, List.getElem?_set_ne (by tauto), hentry]

/-- The halts of a fault leave a HALTED entry (R115). -/
theorem raiseInvolved {c : Cause} {o : Nat} (h : HoldsHalt s.groups i x) :
    HoldsHalt (s.raiseInvolved c o).groups i x := by
  obtain ⟨hentry, hhalted⟩ := h
  refine ⟨?_, hhalted⟩
  simp [State.raiseInvolved, hentry, GroupEntry.raise_of_halted _ _ _ _ hhalted]

theorem recordFault {k : FaultKind} {t : Option Tag} (h : HoldsHalt s.groups i x) :
    HoldsHalt (s.recordFault k t).groups i x := by
  unfold State.recordFault
  split
  · exact h
  · have hraised : HoldsHalt ((s.logFault k t).raiseInvolved .fault s.own).groups i x :=
      raiseInvolved h
    exact hraised.of_groups_eq (by simp)

theorem faultOfActive {k : FaultKind} (h : HoldsHalt s.groups i x) :
    HoldsHalt (s.faultOfActive k).groups i x := recordFault h

theorem checkFollowing {before : State} (h : HoldsHalt s.groups i x) :
    HoldsHalt (before.checkFollowing s).groups i x := by
  unfold State.checkFollowing
  split
  · exact faultOfActive h
  · exact h

/-! #### Emitting a step -/

theorem emitStep (h : HoldsHalt s.groups i x) : HoldsHalt s.emitStep.groups i x := by
  have hjudged : HoldsHalt (s.checkFollowing (s.setGen s.gen.emit)).groups i x := checkFollowing h
  simp only [State.emitStep]
  repeat' split
  · exact faultOfActive h
  · exact hjudged.of_groups_eq (by simp)
  · exact hjudged

theorem firstStep (h : HoldsHalt s.groups i x) : HoldsHalt s.firstStep.groups i x := emitStep h

/-! #### Counting edges, as a homing comes to rest -/

theorem countEdge {d : Side} (h : HoldsHalt s.groups i x) :
    HoldsHalt (s.countEdge d).groups i x := by
  simp only [State.countEdge]
  split
  · exact h
  · refine of_groups_eq (checkFollowing (before := s) ?_) (State.settleTest_groups _)
    exact h

theorem pairChange {a b : Bool} (h : HoldsHalt s.groups i x) :
    HoldsHalt (s.pairChange a b).groups i x := by
  have hcounted : ∀ l, HoldsHalt ((s.takePair a b).countEdges l).groups i x :=
    fun _ => foldl h countEdge
  simp only [State.pairChange]
  split
  · exact faultOfActive (hcounted _)
  · exact hcounted _

theorem pairBecomes {p : Bool × Bool} (h : HoldsHalt s.groups i x) :
    HoldsHalt (s.pairBecomes p).groups i x := by
  unfold State.pairBecomes
  split
  · exact h
  · exact pairChange h

theorem comeToRest (h : HoldsHalt s.groups i x) : HoldsHalt s.comeToRest.groups i x :=
  foldl h pairBecomes

/-! #### Homing -/

theorem failHoming (h : HoldsHalt s.groups i x) : HoldsHalt s.failHoming.groups i x :=
  faultOfActive h

theorem seekRun {d : Side} (h : HoldsHalt s.groups i x) : HoldsHalt (s.seekRun d).groups i x :=
  firstStep h

theorem creepRun (h : HoldsHalt s.groups i x) : HoldsHalt s.creepRun.groups i x := firstStep h

theorem enterAway {p : HomingPhase} (h : HoldsHalt s.groups i x) :
    HoldsHalt (s.enterAway p).groups i x := by
  simp only [State.enterAway]
  split
  · exact failHoming h
  · exact seekRun h

theorem enterSeek (h : HoldsHalt s.groups i x) : HoldsHalt s.enterSeek.groups i x := by
  unfold State.enterSeek
  split
  · exact enterAway h
  · exact seekRun h

theorem completeHoming (h : HoldsHalt s.groups i x) : HoldsHalt s.completeHoming.groups i x := by
  simp only [State.completeHoming]
  split
  · refine of_groups_eq (comeToRest ?_) (State.completeWork_groups _)
    exact h
  · exact h.of_groups_eq (by simp [State.writePositions])

theorem enterIndexStanding (h : HoldsHalt s.groups i x) :
    HoldsHalt s.enterIndexStanding.groups i x := by
  simp only [State.enterIndexStanding]
  split
  · exact failHoming h
  · exact creepRun h

theorem enterApproach (h : HoldsHalt s.groups i x) : HoldsHalt s.enterApproach.groups i x := by
  simp only [State.enterApproach]
  repeat' split
  · exact failHoming h
  · exact completeHoming h
  · exact enterIndexStanding h
  · exact creepRun h

theorem phaseEnd (h : HoldsHalt s.groups i x) : HoldsHalt s.phaseEnd.groups i x := by
  simp only [State.phaseEnd]
  split
  · exact enterAway h
  · exact enterApproach h
  · exact enterApproach h
  · exact h
  · exact h
  · exact h

theorem startHoming {d : Side} {n : Nat} {p : Position} {b : Option Nat}
    (h : HoldsHalt s.groups i x) : HoldsHalt (s.startHoming d n p b).groups i x := by
  simp only [State.startHoming]
  repeat' split
  · exact enterAway h
  · exact enterAway h
  · exact enterSeek h

/-! #### The last step of a run, and the start of a candidate -/

theorem startChained {w : Work} {f : Nat} (h : HoldsHalt s.groups i x) :
    HoldsHalt (s.startChained w f).groups i x := by
  have hformed : HoldsHalt (s.formRecord w).groups i x := h
  simp only [State.startChained]
  repeat' split
  · exact recordFault hformed
  all_goals exact hformed.of_groups_eq (by simp)

theorem handover {f : Nat} (h : HoldsHalt s.groups i x) : HoldsHalt (s.handover f).groups i x := by
  simp only [State.handover]
  split
  · exact h.of_groups_eq (by simp)
  · exact startChained (h.of_groups_eq (by simp))

theorem lastCounted {a : Active} {r : Run} (h : HoldsHalt s.groups i x) :
    HoldsHalt (s.lastCounted a r).groups i x := by
  unfold State.lastCounted
  split
  · exact handover h
  · exact h.of_groups_eq (by simp)

theorem lastPayment {a : Active} (h : HoldsHalt s.groups i x) :
    HoldsHalt (s.lastPayment a).groups i x := by
  unfold State.lastPayment
  split <;> exact h.of_groups_eq (by simp)

theorem lastClearance (h : HoldsHalt s.groups i x) : HoldsHalt s.lastClearance.groups i x := by
  unfold State.lastClearance
  split
  · exact phaseEnd h
  · exact h.of_groups_eq (by simp)

theorem lastStep {r : Run} (h : HoldsHalt s.groups i x) : HoldsHalt (s.lastStep r).groups i x := by
  unfold State.lastStep
  repeat' split
  · exact h
  · exact lastCounted h
  · exact lastCounted h
  · exact lastClearance h
  · exact lastPayment h
  · exact h

theorem standstill (h : HoldsHalt s.groups i x) : HoldsHalt s.standstill.groups i x := by
  unfold State.standstill
  split
  · exact phaseEnd h
  · exact h.of_groups_eq (by simp)

theorem afterStep (h : HoldsHalt s.groups i x) : HoldsHalt s.afterStep.groups i x := by
  unfold State.afterStep
  repeat' split
  · exact h
  · exact lastStep h
  · exact standstill h
  · exact h.of_groups_eq (by simp [State.scheduleNext])
  · exact h

theorem startCounted {w : Work} (h : HoldsHalt s.groups i x) :
    HoldsHalt (s.startCounted w).groups i x := by
  unfold State.startCounted
  split
  · exact h.of_groups_eq (by simp)
  · exact afterStep (emitStep (h.of_groups_eq (by simp)))

theorem handWork {w : Work} (h : HoldsHalt s.groups i x) : HoldsHalt (s.handWork w).groups i x := by
  unfold State.handWork
  repeat' split
  · exact startCounted h
  · exact startCounted h
  · exact startHoming h
  · exact h
  · exact h
  · exact startCounted h
  · exact startCounted h
  · exact h

theorem startCandidate {src : Source} {w : Work} (h : HoldsHalt s.groups i x) :
    HoldsHalt (s.startCandidate src w).groups i x := by
  have hformed : HoldsHalt ((s.takeCandidate src).formRecord w).groups i x :=
    h.of_groups_eq (s.takeCandidate_groups src)
  simp only [State.startCandidate]
  split
  · exact recordFault hformed
  · exact handWork hformed

/-! #### Arming and dispatch -/

theorem readMembers (h : HoldsHalt s.groups i x) : HoldsHalt s.readMembers.groups i x := by
  simp only [State.readMembers, State.computeStart]
  repeat' split
  · exact h
  · exact h
  · exact recordFault h
  · exact recordFault h
  · exact h
  · exact h

theorem arm {k : Nat} {b : BarrierBlock} (h : HoldsHalt s.groups i x) :
    HoldsHalt (s.arm k b).groups i x := by
  simp only [State.arm]
  split
  · exact readMembers h
  · exact foldl (f := fun u m => u.raiseInTable k .peerLost m) h raiseInTable

theorem dispatchOnce (h : HoldsHalt s.groups i x) : HoldsHalt s.dispatchOnce.groups i x := by
  simp only [State.dispatchOnce]
  repeat' split
  · exact h
  · exact h
  · exact h
  · exact arm h
  · exact startCandidate h

theorem dispatchRounds {n : Nat} (h : HoldsHalt s.groups i x) :
    HoldsHalt (State.dispatchRounds n s).groups i x := by
  induction n generalizing s with
  | zero => exact h
  | succ n ih =>
    unfold State.dispatchRounds
    split
    · exact ih (dispatchOnce h)
    · exact dispatchOnce h

theorem dispatch (h : HoldsHalt s.groups i x) : HoldsHalt s.dispatch.groups i x := by
  unfold State.dispatch
  split
  · exact dispatchRounds h
  · exact h

theorem enterIdle {before : State} (h : HoldsHalt s.groups i x) :
    HoldsHalt (before.enterIdle s).groups i x := by
  unfold State.enterIdle
  split
  · exact dispatch h
  · exact h

/-- What the station does about a halted group keeps every halt of the table (R123). -/
theorem groupBecameHalted {k : Nat} (h : HoldsHalt s.groups i x) :
    HoldsHalt (s.groupBecameHalted k).groups i x := by
  unfold State.groupBecameHalted
  split
  case h_1 =>
    split
    · exact enterIdle (h.of_groups_eq s.stopForHalt_groups)
    · exact h
  case h_2 =>
    split
    · exact h
    · exact h
  case h_3 => exact dispatch h
  case h_4 => exact dispatch h
  all_goals exact h

end HoldsHalt

end Sys2Proof.Machine

/-! ## Proofs: HALT (R117) -/

namespace Sys2Proof.Machine

/-- Whatever the station does about it, the raised halt stands in the table (R114, R123). -/
theorem State.group_raiseHalt_of_clear (s : State) (g : Nat) (c : Cause) (o : Nat) (h1 : 1 ≤ g)
    (h15 : g ≤ 15) (hl : s.groups.length = 15) (h : (s.group g).condition = .clear) :
    (s.raiseHalt g c o).group g =
      ⟨(s.group g).epoch + 1, .halted, true, c, some o, s.link.cycle⟩ := by
  have hentry := s.group_raiseInTable_of_clear g c o h1 (by omega) h
  have hlen : g ≤ (s.raiseInTable g c o).groups.length := by
    simp only [s.raiseInTable_of_clear g c o h1 h, List.length_set]; omega
  have hheld := HoldsHalt.groupBecameHalted (k := g)
    ((s.raiseInTable g c o).holdsHalt_group g h1 hlen (by rw [hentry]))
  rw [s.raiseHalt_of_clear g c o h1 h15 hl h, State.group_of_holdsHalt _ g _ h1 hheld, hentry]

/-- Settles O35: the body decides whether the HALT names a group, the entry of the group whether it
raises a halt, and the station state how the station takes the raised halt. -/
theorem haltRaisesTheGroup : Obligations.HaltRaisesTheGroup := by
  intro s sender dest g haddr hl entry
  refine ⟨fun hg => ?noGroup, fun body hlen => ?wrongLength, fun h1 h15 => ?_⟩
  case noGroup =>
    rw [exec_halt_of_addressed s sender dest _ haddr, s.takeHalt_of_noGroup sender g hg, s.refuse_eq]
  case wrongLength =>
    rw [exec_halt_of_addressed s sender dest _ haddr, s.takeHalt_of_wrongLength sender body hlen,
      s.refuse_eq]
  rw [exec_halt_of_addressed s sender dest _ haddr, s.takeHalt_of_group sender g h1 h15]
  refine ⟨fun hhalted => ?halted, fun hclear => ⟨⟨_, rfl, ?entry⟩, ?_⟩⟩
  case halted => rw [s.raiseHalt_of_halted _ _ _ hhalted]
  case entry => exact s.group_raiseHalt_of_clear _ _ _ h1 h15 hl hclear
  rw [s.raiseHalt_of_clear _ _ _ h1 h15 hl hclear, s.raiseInTable_of_clear _ _ _ h1 hclear]
  refine ⟨fun hs => ?unaffected, fun b hs hb hg => ?armed,
    fun a r hs ha hg hk hf hr hstand hbrake hfast => ?moving⟩
    <;> refine congrArg Host.Outcome.next ?_
  case unaffected => exact State.groupBecameHalted_of_unaffected _ _ hs
  case armed => exact State.groupBecameHalted_of_armed _ _ b hs hb hg
  case moving =>
    have hnotTracking : s.follow.phase ≠ .tracking := by rw [hf]; decide
    exact State.groupBecameHalted_of_fastRecord _ _ a hs ha hg hk hnotTracking
      (Gen.stopsAtOnce_of_fast s.gen r hr hstand hbrake hfast)

end Sys2Proof.Machine

/-! ## Proofs: a mark is heard by its check byte (R165) -/

namespace Sys2Proof.Machine

/-- MARK_HEARD hands the mark to the link's hearing of marks. -/
theorem exec_markHeard (m : Cycle) (check : Byte) (s : State) :
    exec (.markHeard m check) s = .next (s.hearMark m check) := rfl

/-- The check byte is read before the link state, so a wrong one stops the mark in every state (R165). -/
theorem State.hearMark_of_wrongCheck (s : State) (m : Cycle) (check : Byte)
    (h : check ≠ markCheck m) : s.hearMark m check = s := if_pos h

/-- Settles O8: the byte written out in the statement is the check byte of 13.1, and a mark without it
is not heard. -/
theorem markWithWrongCheckByteIsNotHeard : Obligations.MarkWithWrongCheckByteIsNotHeard := by
  intro s m check hwrong
  have hcheck : check ≠ markCheck m := hwrong
  rw [exec_markHeard, s.hearMark_of_wrongCheck m check hcheck]

end Sys2Proof.Machine

/-! ## Proofs: the BOUND mark and the commit watch are not kept by every step (R8, R44) -/

namespace Sys2Proof.Machine

/-- The bound successor of the record in `stoppedWhileRunning`. -/
def boundSuccessor : QueueEntry := ⟨8, false, false, 0, ⟨2, 8, 10, 7⟩, none, .move 5, true⟩

/-- A RUNNING MOVE that carries the disposition ABORT, brakes at its start rate, and still has its bound
successor at the queue head; a residual and the pause latch keep dispatch from that head. -/
def stoppedWhileRunning : State := { State.reset with
  loader := { Loader.reset with load := .loaded }
  link := { Link.reset with state := .joined }
  queue := { SegQueue.reset with entries := [boundSuccessor] }
  seq := { Sequencer.reset with
    station := .running, paused := true
    active := some {
      work := .segment ⟨7, false, true, 0, ⟨2, 8, 10, 7⟩, none, .move 20, false⟩
      disposition := some .abort, faultEnded := false, reserved := false
      bound := some boundSuccessor, dwellEnd := none } }
  stack := { Suspension.reset with
    residuals := [⟨6, 0, none, ⟨2, 8, 10, 7⟩, .pause, .dwell 3⟩] }
  gen := { Gen.reset with
    phase := .braking, rate := 3
    run := some ⟨.counted, some 20, 5, ⟨2, 8, 10, 7⟩, 2, 8, 3, false, 2⟩ }
  pending := [.stepDue] }

theorem stoppedWhileRunning_chainInv : stoppedWhileRunning.chainInv := by decide

/-- The state after the braking step: the record has ended ABORTED, and the latch keeps the station IDLE. -/
def stoppedAtStandstill : State :=
  (stoppedWhileRunning.setPending []).enterIdle (stoppedWhileRunning.setPending []).stepRun

theorem step_stoppedWhileRunning : step stoppedWhileRunning = .next stoppedAtStandstill :=
  congrArg Host.Outcome.next (if_pos (by decide))

theorem stoppedAtStandstill_not_boundOk : ¬ stoppedAtStandstill.boundOk := by decide +kernel

/-- Refutes O54: `chainInv` does not say that a RUNNING record carries no disposition, and one that does
ends at its standstill with the BOUND mark of its successor left in the queue. -/
theorem not_queueInvariantIsKept : ¬ Obligations.QueueInvariantIsKept := by
  intro h
  obtain ⟨-, hchain⟩ := h _ _ step_stoppedWhileRunning
  obtain ⟨-, hbound, -⟩ := hchain stoppedWhileRunning_chainInv
  exact stoppedAtStandstill_not_boundOk hbound
end Sys2Proof.Machine

/-! ## Proofs: the changes a happening is made of

Every command but POWER_ON and PIN_RESET is a chain of a few elementary changes. Each names what it
changes and the condition under which the model makes it, so that an invariant or a frame is proved by
looking at each change once. -/

namespace Sys2Proof.Machine

/-- What only some commands may do: set HOMED, empty the Fault Log, take a group state that was heard, and
answer a message: write the expected tag, FRESH and the last refusal. -/
inductive Permit where
  | homes | clears | hears | answers

/-- A queue entry without its BOUND mark. -/
def QueueEntry.unmarked (e : QueueEntry) : QueueEntry := { e with bound := false }

/-- The entries of two queues differ in their BOUND marks at most. -/
def SameEntries (es es' : List QueueEntry) : Prop :=
  es'.map QueueEntry.unmarked = es.map QueueEntry.unmarked

/-- The expected tag, FRESH and the last refusal are the same. -/
structure SameTags (q q' : SegQueue) : Prop where
  expected : q'.expected = q.expected
  fresh : q'.fresh = q.fresh
  refusal : q'.refusal = q.refusal

/-- The link keeps its state and the widths of its counters, and a SILENT one sends nothing. -/
structure LinkKept (l l' : Link) : Prop where
  state : l'.state = l.state
  sending : l.state = .silent → l'.sending = l.sending
  markSent : l.state = .silent → l'.markSent = l.markSent
  crcErrors : l.crcErrors ≤ 65535 → l'.crcErrors ≤ 65535
  slotViolations : l.slotViolations ≤ 255 → l'.slotViolations ≤ 255
  cycleSlips : l.cycleSlips ≤ 255 → l'.cycleSlips ≤ 255
  droppedQueries : l.droppedQueries ≤ 255 → l'.droppedQueries ≤ 255
  listenFailures : l.listenFailures ≤ 3 → l'.listenFailures ≤ 3

/-- The active record keeps its work, takes the fault-ended mark only with an open episode, and a
reserved place only where the stack has room for it. -/
structure ActiveKept (s : State) (a a' : Active) : Prop where
  work : a'.work = a.work
  faultEnded : a'.faultEnded = true → a.faultEnded = true ∨ s.faults.first.isSome = true
  reserved : a'.reserved = true → a.reserved = true ∨ s.stack.residuals.length + 1 ≤ 3
  placeOk : a.placeOk = true → a'.placeOk = true

/-- The elementary changes, under what the command permits. -/
inductive Change (P : Permit → Prop) (s : State) : State → Prop where
  | gen (g : Gen) : Change P s (s.setGen g)
  | homing (x : Homing) : Change P s (s.setHoming x)
  | encoder (e : Encoder) : Change P s (s.setEncoder e)
  | drive (d : Drive) : Change P s (s.setDrive d)
  | openCount (n : Nat) : Change P s (s.setOpenCount n)
  | restCount (n : Nat) : Change P s (s.setRestCount n)
  | indexCount (n : Nat) : Change P s (s.setIndexCount n)
  | follow (f : Follow) (h : s.follow.followed ≤ 16777215 → f.followed ≤ 16777215) :
      Change P s (s.setFollow f)
  | groups (gs : List GroupEntry) (hlen : gs.length = s.groups.length)
      (hheld : ∀ i x, HoldsHalt s.groups i x → HoldsHalt gs i x) : Change P s (s.setGroups gs)
  | hear (gs : List GroupEntry) (hp : P .hears) (hlen : gs.length = s.groups.length) :
      Change P s (s.setGroups gs)
  | peers (ps : List PeerEntry) (h : ps.length = s.peers.length) : Change P s (s.setPeers ps)
  | loader (l : Loader) (hload : l.load = s.loader.load) (hset : l.settings = s.loader.settings)
      (haddr : l.address = s.loader.address) : Change P s (s.setLoader l)
  | failLoad (h : s.loader.load = .loading) : Change P s s.failLoad
  | useRecord (c : Settings) (address : Nat) (levels : BitVec 7) (h : s.loader.load = .loading) :
      Change P s (s.useRecord c address levels)
  | link (l : Link) (h : LinkKept s.link l) : Change P s (s.setLink l)
  | join (l : Link) (h : s.link.state = .listening) (hl : LinkKept { s.link with state := .joined } l) :
      Change P s ((s.setLink l).setStation .idle)
  | silence (l : Link) (h : s.link.state = .joined)
      (hl : LinkKept { s.link with state := .silent } l) : Change P s (s.setLink l)
  | logFault (k : FaultKind) (tag : Option Tag) : Change P s (s.logFault k tag)
  | endEpisode (hp : P .clears) (h : s.station = .faulted) :
      Change P s ((s.setFaults .reset).setStation .idle)
  | reset (hp : P .clears) (h : s.link.state = .joined) :
      Change P s (s.abortMotion.emptyWork.setStation .idle)
  | seq (q : Sequencer) (hs : q.station = s.seq.station) (ha : q.active = s.seq.active)
      (hh : q.homed = true → s.seq.homed = true ∨ P .homes)
      (hc : s.seq.chainBreaks ≤ 255 → q.chainBreaks ≤ 255) : Change P s (s.setSeq q)
  | endRecord (r : Result) (h : r = .faulted → ∀ a, s.seq.active = some a →
      a.faultEnded = true ∨ s.faults.first.isSome = true) : Change P s (s.endRecord r)
  | pushResidual (r : Residual) (a : Active) (ha : s.seq.active = some a)
      (h : s.stack.residuals.length < 3 ∨ (a.disposition = some .preempt ∧ a.faultEnded = false)) :
      Change P s (s.pushResidual r)
  | overflow (x : Suspension) (hr : x.residuals = s.stack.residuals)
      (hc : s.stack.overflowCount ≤ 255 → x.overflowCount ≤ 255) : Change P s (s.setStack x)
  | queue (q : SegQueue) (h : SameEntries s.queue.entries q.entries)
      (htags : P .answers ∨ SameTags s.queue q) : Change P s (s.setQueue q)
  | place (e : QueueEntry) (hlen : s.queue.entries.length < 16)
      (ha : s.station = .armed → e.insert = false) (hp : P .answers) :
      Change P s (s.setQueue { s.queue with
        entries := placeEntry e s.queue.entries, expected := s.queue.expected + 1, fresh := false })
  | flush (scope : FlushScope) :
      Change P s ((s.setQueue { s.queue with entries := s.flushedEntries scope }).setStack
        { s.stack with residuals := s.flushedResiduals scope,
                       overflow := s.stack.overflow && !scope.clearsOverflow })
  | take (src : Source) (h : s.station ≠ .armed) : Change P s (s.takeCandidate src)
  | active (a a' : Active) (ha : s.seq.active = some a) (h : ActiveKept s a a') :
      Change P s (s.setActive (some a'))
  | quiet (x : Station) (h : s.station = .idle ∨ s.station = .held)
      (hx : x = .idle ∨ x = .held ∨ (x = .faulted ∧ s.faults.first.isSome = true)) :
      Change P s (s.setStation x)
  | disarm (x : Station) (h : s.station = .armed)
      (hx : x = .held ∨ (x = .faulted ∧ s.faults.first.isSome = true)) :
      Change P s ((s.setBarrier none).setStation x)
  | work (x : Station) (ha : s.seq.active.isSome = true) (hx : x = .stopping ∨ x = .settling) :
      Change P s (s.setStation x)
  | arm (src : Source) (w : Work) (b : BarrierRec) (h : s.station = .idle ∨ s.station = .held)
      (hc : s.candidate = some (src, w)) (hw : w.barrier.isSome = true) (hg : w.group = b.group)
      (hb : b.phase = .armed) : Change P s ((s.setBarrier (some b)).setStation .armed)
  | barrier (b b' : BarrierRec) (h : s.barrier = some b) (hg : b'.group = b.group)
      (hp : b'.phase = b.phase) : Change P s (s.setBarrier (some b'))
  | form (w : Work) (h : s.station = .idle ∨ s.station = .held) : Change P s (s.formRecord w)
  | start (w : Work) (b : BarrierRec) (h : s.station = .armed) (hb : s.barrier = some b) :
      Change P s ((s.setBarrier (some { b with phase := .started })).formRecord w)

/-- A chain of elementary changes. -/
def Changes (P : Permit → Prop) : State → State → Prop := Relation.ReflTransGen (Change P)

/-- What every elementary change keeps, a chain of them keeps. -/
theorem Changes.keeps {P : Permit → Prop} {I : State → Prop} {s t : State} (h : Changes P s t)
    (hI : ∀ s t, Change P s t → I s → I t) (hs : I s) : I t := by
  induction h with
  | refl => exact hs
  | tail _ hchange ih => exact hI _ _ hchange ih

namespace Changes

variable {P : Permit → Prop} {o s : State}

theorem refl (s : State) : Changes P s s := Relation.ReflTransGen.refl

theorem change {t : State} (h : Changes P o s) (c : Change P s t) : Changes P o t :=
  Relation.ReflTransGen.tail h c

theorem of_eq {t : State} (h : Changes P o s) (e : t = s) : Changes P o t := e ▸ h

/-- A fold of operations that are chains is a chain. -/
theorem foldl {α : Type} {f : State → α → State} {l : List α} (h : Changes P o s)
    (hf : ∀ {u : State}, ∀ a ∈ l, Changes P o u → Changes P o (f u a)) :
    Changes P o (l.foldl f s) := by
  induction l generalizing s with
  | nil => exact h
  | cons a l ih =>
    exact ih (hf a List.mem_cons_self h) fun b hb => hf b (List.mem_cons_of_mem a hb)

/-! ### Updates of one block -/

theorem setGen (h : Changes P o s) {g : Gen} : Changes P o (s.setGen g) := h.change (.gen g)

theorem setHoming (h : Changes P o s) {x : Homing} : Changes P o (s.setHoming x) :=
  h.change (.homing x)

theorem setEncoder (h : Changes P o s) {e : Encoder} : Changes P o (s.setEncoder e) :=
  h.change (.encoder e)

theorem setDrive (h : Changes P o s) {d : Drive} : Changes P o (s.setDrive d) := h.change (.drive d)

/-- A write to the Follow Unit that leaves its count or sets it to 0. -/
theorem setFollow (h : Changes P o s) {f : Follow}
    (hf : f.followed = s.follow.followed ∨ f.followed = 0) : Changes P o (s.setFollow f) :=
  h.change (.follow f fun hs => by omega)

/-- A write to the sequencer's own flags and records. -/
theorem setSeq (h : Changes P o s) {q : Sequencer} (hs : q.station = s.seq.station)
    (ha : q.active = s.seq.active) (hh : q.homed = true → s.seq.homed = true ∨ P .homes)
    (hc : q.chainBreaks = s.seq.chainBreaks) : Changes P o (s.setSeq q) :=
  h.change (.seq q hs ha hh (fun hle => hc ▸ hle))

/-- A write to the active record, which may be absent. -/
theorem mapActive (h : Changes P o s) {f : Active → Active} (hf : ∀ a, ActiveKept s a (f a)) :
    Changes P o (s.setActive (s.seq.active.map f)) := by
  cases ha : s.seq.active with
  | none => exact h.of_eq (by rw [Option.map_none, ← ha]; rfl)
  | some a => exact h.change (.active a (f a) ha (hf a))

theorem refuse (h : Changes P o s) (hp : P .answers) {k : MsgKind} {t : Option Tag} {r : Reason} :
    Changes P o (s.refuse k t r) := h.change (.queue _ rfl (.inl hp))

/-! ### Records -/

/-- A record that ends otherwise than FAULTED. -/
theorem endRecord (h : Changes P o s) {r : Result} (hr : r ≠ .faulted) :
    Changes P o (s.endRecord r) := h.change (.endRecord r fun e => absurd e hr)

/-- A record that ends FAULTED while an episode is open. -/
theorem endFaulted (h : Changes P o s) (hf : s.faults.first.isSome = true) :
    Changes P o (s.endRecord .faulted) := h.change (.endRecord .faulted fun _ _ _ => .inr hf)

theorem discardResidual (h : Changes P o s) {r : Result} (hr : r ≠ .faulted) :
    Changes P o (s.discardResidual r) :=
  endRecord (h.change (.overflow { s.stack with
    overflow := true, overflowCount := satSucc 255 s.stack.overflowCount } rfl (satSucc_le 255 _))) hr

theorem reachStandstill (h : Changes P o s) : Changes P o s.reachStandstill := by
  unfold State.reachStandstill
  split
  case h_1 => exact h.setGen
  case h_2 a ha =>
    split
    case isTrue hend =>
      refine h.change (.endRecord .faulted fun _ b hb => ?_)
      rw [ha] at hb
      exact .inl (Option.some.inj hb ▸ hend)
    case isFalse hend =>
      have hroom : s.stackHasRoom = true → s.stack.residuals.length < 3 := of_decide_eq_true
      split
      · exact h.setGen
      · exact h.endRecord (by decide)
      · exact h.change (.pushResidual _ a ha (.inr ⟨‹_›, by simpa using hend⟩))
      · exact h.endRecord (by decide)
      · split
        · exact h.change (.pushResidual _ a ha (.inl (hroom ‹_›)))
        · exact h.discardResidual (by decide)
      · exact h.endRecord (by decide)
      · split
        · exact h.change (.pushResidual _ a ha (.inl (hroom ‹_›)))
        · exact h.discardResidual (by decide)
      · exact h.endRecord (by decide)

theorem unbind (h : Changes P o s) : Changes P o s.unbind := by
  have hentries : SameEntries s.queue.entries s.unbind.queue.entries := by
    simp [SameEntries, QueueEntry.unmarked, State.unbind]
  have hmarked := h.change (.queue s.unbind.queue hentries (.inr ⟨rfl, rfl, rfl⟩))
  exact mapActive hmarked fun a => ⟨rfl, .inl, .inl, id⟩

theorem ceaseFollow (h : Changes P o s) : Changes P o s.ceaseFollow := by
  unfold State.ceaseFollow
  split
  · exact h.setFollow (.inl (by rfl))
  · exact h

/-- The stop of a record that carries its disposition. -/
theorem stopMotion (h : Changes P o s) {immediate : Bool} (ha : s.seq.active.isSome = true) :
    Changes P o (s.stopMotion immediate) := by
  unfold State.stopMotion
  split
  · exact h.reachStandstill
  · exact h.setGen.change (.work .stopping ha (.inl rfl))

theorem beginStop (h : Changes P o s) {d : Disposition} {immediate faultEnded : Bool}
    (hd : d = .preempt → s.stack.residuals.length + 1 ≤ 3)
    (hf : faultEnded = true → s.faults.first.isSome = true) :
    Changes P o (s.beginStop d immediate faultEnded) := by
  have hstack : s.unbind.ceaseFollow.stack = s.stack := by
    unfold State.ceaseFollow; split <;> rfl
  have hfaults : s.unbind.ceaseFollow.faults = s.faults := by
    unfold State.ceaseFollow; split <;> rfl
  simp only [State.beginStop]
  split
  case h_1 => exact h
  case h_2 a ha =>
    refine stopMotion (h.unbind.ceaseFollow.change (.active a { a with
      disposition := some d, faultEnded := faultEnded, reserved := decide (d = .preempt) } ha
      ⟨rfl, fun e => ?_, fun e => ?_, fun _ => ?_⟩)) rfl
    · exact .inr (by rw [hfaults]; exact hf e)
    · exact .inr (by rw [hstack]; exact hd (of_decide_eq_true e))
    · cases d <;> simp [Active.placeOk]

/-- A stop that neither preempts nor ends the record with a fault. -/
theorem beginPlainStop (h : Changes P o s) {d : Disposition} {immediate : Bool} (hd : d ≠ .preempt) :
    Changes P o (s.beginStop d immediate false) :=
  h.beginStop (fun e => absurd e hd) (fun e => by simp at e)

theorem stopForHalt (h : Changes P o s) : Changes P o s.stopForHalt := h.beginPlainStop (by decide)

theorem settleTest (h : Changes P o s) : Changes P o s.settleTest := by
  unfold State.settleTest
  split
  · exact h.endRecord (by decide)
  · exact h

theorem enterSettling (h : Changes P o s) {a : Active} (ha : s.seq.active = some a) :
    Changes P o s.enterSettling := by
  have hrecord := ((h.setGen (g := s.gen.ceased)).setEncoder
    (e := { s.encoder with settle := some 0 })).change (.active a
      { a with disposition := none, reserved := false } ha ⟨rfl, .inl, by simp, by simp [Active.placeOk]⟩)
  refine settleTest ((hrecord.change (.work .settling rfl (.inr rfl))).of_eq ?_)
  simp [State.setSeq, State.setStation, State.setActive, State.setGen, State.setEncoder, ha]

theorem completeWork (h : Changes P o s) : Changes P o s.completeWork := by
  unfold State.completeWork
  split
  case h_1 => exact h
  case h_2 a ha =>
    split
    case isTrue hend =>
      refine h.change (.endRecord .faulted fun _ b hb => ?_)
      rw [ha] at hb
      exact .inl (Option.some.inj hb ▸ hend)
    case isFalse =>
      split
      · exact h.enterSettling ha
      · exact h.endRecord (by decide)

/-! ### The fault path -/

theorem raiseInTable (h : Changes P o s) {g : Nat} {c : Cause} {n : Nat} :
    Changes P o (s.raiseInTable g c n) := by
  have hheld := fun i x (hx : HoldsHalt s.groups i x) => hx.raiseInTable (k := g) (c := c) (o := n)
  revert hheld
  unfold State.raiseInTable State.setGroup
  split
  · exact fun _ => h
  · exact fun hheld => h.change (.groups _ (by simp) hheld)

theorem raiseInvolved (h : Changes P o s) {c : Cause} {n : Nat} :
    Changes P o (s.raiseInvolved c n) :=
  h.change (.groups _ (by simp) fun _ _ hx => hx.raiseInvolved (c := c) (o := n))

theorem faultWhileStopping (h : Changes P o s) {immediate : Bool}
    (hf : s.faults.first.isSome = true) : Changes P o (s.faultWhileStopping immediate) := by
  have hmarked : Changes P o (s.setActive (s.seq.active.map fun a =>
      { a with faultEnded := true, reserved := false })) :=
    h.mapActive fun a => ⟨rfl, fun _ => .inr hf, by simp, by simp [Active.placeOk]⟩
  simp only [State.faultWhileStopping]
  split
  · exact hmarked.ceaseFollow.reachStandstill
  · exact hmarked.ceaseFollow

theorem faultStation (h : Changes P o s) {immediate : Bool} (hf : s.faults.first.isSome = true) :
    Changes P o (s.faultStation immediate) := by
  unfold State.faultStation
  split
  · exact h
  · exact h.change (.quiet .faulted (.inl ‹_›) (.inr (.inr ⟨rfl, hf⟩)))
  · exact h.change (.quiet .faulted (.inr ‹_›) (.inr (.inr ⟨rfl, hf⟩)))
  · exact h.change (.disarm .faulted ‹_› (.inr ⟨rfl, hf⟩))
  · exact h.beginStop (by simp) (fun _ => hf)
  · exact h.faultWhileStopping hf
  · exact h.endFaulted hf
  · exact h

theorem clearHomedFor (h : Changes P o s) {k : FaultKind} : Changes P o (s.clearHomedFor k) := by
  unfold State.clearHomedFor
  split
  · exact h.setSeq rfl rfl (by simp) rfl
  · exact h

theorem pulseFor (h : Changes P o s) {k : FaultKind} : Changes P o (s.pulseFor k) := by
  unfold State.pulseFor State.startPulse
  repeat' split
  · exact h.setDrive
  · exact h
  · exact h

theorem recordFault (h : Changes P o s) {k : FaultKind} {tag : Option Tag} :
    Changes P o (s.recordFault k tag) := by
  unfold State.recordFault
  split
  · exact h
  · refine (faultStation (raiseInvolved (h.change (.logFault k tag))) ?_).clearHomedFor.pulseFor
    exact congrArg Option.isSome (FaultLog.record_spec s.faults _).2.2

theorem faultOfActive (h : Changes P o s) {k : FaultKind} : Changes P o (s.faultOfActive k) :=
  h.recordFault

theorem checkFollowing (h : Changes P o s) {before : State} :
    Changes P o (before.checkFollowing s) := by
  unfold State.checkFollowing
  split
  · exact h.faultOfActive
  · exact h

theorem levelTests (h : Changes P o s) : Changes P o s.levelTests := by
  simp only [State.levelTests]
  repeat' split
  · exact h.faultOfActive.faultOfActive
  · exact h.faultOfActive
  · exact h.faultOfActive
  · exact h

/-! ### Emitting a step -/

theorem followStep (h : Changes P o s) : Changes P o s.followStep := by
  have hstepped : Changes P o (s.setFollow (s.follow.stepped s.gen.dir)) :=
    h.change (.follow _ fun _ => s.follow.counted_le)
  simp only [State.followStep]
  split
  · exact hstepped.setGen
  · exact hstepped

theorem reportStep (h : Changes P o s) : Changes P o s.reportStep := by
  unfold State.reportStep
  split
  · exact h.setHoming
  · exact h.followStep
  all_goals exact h

theorem emitStep (h : Changes P o s) : Changes P o s.emitStep := by
  simp only [State.emitStep]
  repeat' split
  · exact h.faultOfActive
  · exact h.setGen.checkFollowing.reportStep
  · exact h.setGen.checkFollowing

theorem firstStep (h : Changes P o s) : Changes P o s.firstStep := h.emitStep.setGen

/-! ### Counting edges -/

theorem countEdge (h : Changes P o s) {d : Side} : Changes P o (s.countEdge d) := by
  simp only [State.countEdge]
  split
  · exact h.setEncoder
  · exact h.setEncoder.checkFollowing.settleTest

theorem pairChange (h : Changes P o s) {a b : Bool} : Changes P o (s.pairChange a b) := by
  have hcounted : ∀ l, Changes P o ((s.takePair a b).countEdges l) :=
    fun l => foldl h.setDrive.setEncoder fun _ _ hu => hu.countEdge
  simp only [State.pairChange]
  split
  · exact (hcounted _).faultOfActive
  · exact hcounted _

theorem pairBecomes (h : Changes P o s) {p : Bool × Bool} : Changes P o (s.pairBecomes p) := by
  unfold State.pairBecomes
  split
  · exact h
  · exact h.pairChange

theorem comeToRest (h : Changes P o s) : Changes P o s.comeToRest :=
  foldl (h.change (.restCount _)) fun _ _ hu => hu.pairBecomes

/-! ### Homing -/

theorem seekRun (h : Changes P o s) {d : Side} : Changes P o (s.seekRun d) := h.setGen.firstStep

theorem enterAway (h : Changes P o s) {p : HomingPhase} : Changes P o (s.enterAway p) := by
  simp only [State.enterAway]
  split
  · exact h.setHoming.faultOfActive
  · exact h.setHoming.seekRun

theorem enterSeek (h : Changes P o s) : Changes P o s.enterSeek := by
  unfold State.enterSeek
  split
  · exact h.enterAway
  · exact h.setHoming.seekRun

theorem startHoming (h : Changes P o s) {d : Side} {n : Nat} {p : Position} {b : Option Nat} :
    Changes P o (s.startHoming d n p b) := by
  have hset := fun x => (h.setSeq (q := { s.seq with homed := false }) rfl rfl (by simp) rfl).setHoming
    (x := x)
  simp only [State.startHoming]
  repeat' split
  · exact (hset _).enterAway
  · exact (hset _).enterAway
  · exact (hset _).enterSeek

theorem completeHoming (h : Changes P o s) (hp : P .homes) : Changes P o s.completeHoming := by
  have hwritten : ∀ g e x, Changes P o ((((s.setGen g).setEncoder e).setSeq
      { s.seq with homed := true }).setHoming x) :=
    fun g e x => ((h.setGen (g := g)).setEncoder (e := e)).setSeq (q := { s.seq with homed := true })
      rfl rfl (fun _ => .inr hp) rfl |>.setHoming
  simp only [State.completeHoming]
  split
  · exact (hwritten _ _ _).comeToRest.completeWork
  · exact (hwritten _ _ _).completeWork

theorem enterApproach (h : Changes P o s) (hp : P .homes) : Changes P o s.enterApproach := by
  simp only [State.enterApproach, State.enterIndexStanding]
  repeat' split
  · exact h.setHoming.faultOfActive
  · exact h.setHoming.completeHoming hp
  · exact h.setHoming.setHoming.faultOfActive
  · exact h.setHoming.setHoming.setGen.firstStep
  · exact h.setHoming.setGen.firstStep

theorem phaseEnd (h : Changes P o s) (hp : P .homes) : Changes P o s.phaseEnd := by
  simp only [State.phaseEnd]
  split
  · exact h.setGen.enterAway
  · exact h.setGen.enterApproach hp
  · exact h.setGen.enterApproach hp
  all_goals exact h.setGen

theorem phaseBrake (h : Changes P o s) (hp : P .homes) : Changes P o s.phaseBrake := by
  unfold State.phaseBrake
  split
  · exact h.phaseEnd hp
  · exact h.setGen

theorem homeActive (h : Changes P o s) (hp : P .homes) : Changes P o s.homeActive := by
  simp only [State.homeActive, State.enterIndexMoving]
  split
  · exact h.setHoming.phaseBrake hp
  · exact h.setHoming
  · exact h.setHoming
  · repeat' split
    · exact h.completeHoming hp
    · exact h.setHoming.faultOfActive
    · exact h.setHoming
  all_goals exact h

theorem clearance (h : Changes P o s) (hp : P .homes) : Changes P o s.clearance := by
  unfold State.clearance
  split
  · exact h.setHoming.phaseBrake hp
  · exact h.setHoming.setGen

theorem homeInactive (h : Changes P o s) (hp : P .homes) : Changes P o s.homeInactive := by
  have hseen : ∀ b : Bool, Changes P o (if b then s.clearance else s) := by
    intro b
    split
    · exact h.clearance hp
    · exact h
  unfold State.homeInactive
  split
  · exact hseen _
  · exact hseen _
  all_goals exact h

theorem judgeHomingLimit (h : Changes P o s) {d : Side} : Changes P o (s.judgeHomingLimit d) := by
  unfold State.judgeHomingLimit State.homingLimit
  repeat' split
  · exact h.setHoming.setGen.enterAway
  · exact h
  · exact h.setGen.enterAway
  · exact h
  · exact h.faultOfActive
  · exact h.faultOfActive
  · exact h.faultOfActive
  · exact h.faultOfActive
  · exact h
  · exact h.faultOfActive
  · exact h

theorem countIndex (h : Changes P o s) (hp : P .homes) : Changes P o s.countIndex := by
  simp only [State.countIndex]
  repeat' split
  · exact h.setHoming.completeHoming hp
  · exact h.setHoming
  · exact h

/-! ### Following -/

theorem failFollow (h : Changes P o s) {k : FaultKind} : Changes P o (s.failFollow k) :=
  (h.setFollow (.inl (by rfl))).faultOfActive

theorem paymentEnd (h : Changes P o s) : Changes P o s.paymentEnd := by
  simp only [State.paymentEnd]
  split
  · exact (h.setGen.setFollow (.inr (by rfl))).completeWork
  · exact h.setGen.setFollow (.inl (by rfl))

theorem payFirst (h : Changes P o s) : Changes P o s.payFirst := by
  simp only [State.payFirst]
  repeat' split
  · exact h.emitStep
  · exact h.emitStep.paymentEnd
  · exact h.emitStep.setGen

theorem beginPayment (h : Changes P o s) {d : Side} {rate : Nat} {n : Option Nat} :
    Changes P o (s.beginPayment d rate n) := by
  unfold State.beginPayment
  split
  · exact h.failFollow
  · exact (h.setFollow (.inl (by rfl))).setGen.payFirst

theorem pay (h : Changes P o s) : Changes P o s.pay := by
  simp only [State.pay, State.turn]
  repeat' split
  · exact h
  · exact h.beginPayment
  · exact h.beginPayment
  · exact h.setGen.setFollow (.inl (by rfl))
  · exact h.setGen
  · exact h.beginPayment

theorem convertLeader (h : Changes P o s) {p : Position} : Changes P o (s.convertLeader p) := by
  have hconverted : Changes P o (s.setFollow (s.follow.convert p)) := h.setFollow (.inl (by rfl))
  simp only [State.convertLeader]
  repeat' split
  · exact hconverted.failFollow
  · exact hconverted
  · exact hconverted.pay

theorem checkLeader (h : Changes P o s) : Changes P o s.checkLeader := by
  unfold State.checkLeader State.loseLeader
  split
  · exact (h.setFollow (.inl (by rfl))).failFollow
  · exact h

end Changes

end Sys2Proof.Machine

/-! ## Proofs: the changes of runs, starts, dispatch and the shared agreements -/

namespace Sys2Proof.Machine

/-! ### The work of the active record while a step is emitted -/

/-- The active record has gone or keeps its work. -/
def WorkKept (s t : State) : Prop :=
  t.seq.active = none ∨ t.seq.active.map Active.work = s.seq.active.map Active.work

theorem WorkKept.refl (s : State) : WorkKept s s := .inr rfl

theorem WorkKept.trans {s t u : State} (h : WorkKept s t) (h' : WorkKept t u) : WorkKept s u := by
  rcases h' with h' | h'
  · exact .inl h'
  · rcases h with h | h
    · exact .inl (by simpa [h] using h')
    · exact .inr (h'.trans h)

/-- A kind the active record has after, it had before. -/
theorem WorkKept.activeKind {s t : State} (h : WorkKept s t) {k : SegKind}
    (hk : t.activeKind = some k) : s.activeKind = some k := by
  have hkind : ∀ u : State, u.activeKind = (u.seq.active.map Active.work).map Work.kind := fun u => by
    simp [State.activeKind, Function.comp_def]
  rcases h with h | h
  · simp [State.activeKind, h] at hk
  · rw [hkind, ← h, ← hkind, hk]

theorem State.endRecord_workKept (s : State) (r : Result) : WorkKept s (s.endRecord r) := by
  unfold State.endRecord
  split
  · exact .refl s
  · exact .inl rfl

theorem State.reachStandstill_workKept (s : State) : WorkKept s s.reachStandstill := by
  unfold State.reachStandstill
  split
  case h_1 => exact .inr rfl
  case h_2 =>
    split
    · exact s.endRecord_workKept _
    · split
      case h_1 => exact .inr rfl
      case h_2 => exact s.endRecord_workKept _
      case h_3 => exact .inl rfl
      case h_4 => exact s.endRecord_workKept _
      case h_5 =>
        split
        · exact .inl rfl
        · exact State.endRecord_workKept _ _
      case h_6 => exact s.endRecord_workKept _
      case h_7 =>
        split
        · exact .inl rfl
        · exact State.endRecord_workKept _ _
      case h_8 => exact s.endRecord_workKept _

theorem State.beginStop_workKept (s : State) (d : Disposition) (b c : Bool) :
    WorkKept s (s.beginStop d b c) := by
  have hactive : s.unbind.ceaseFollow.seq.active.map Active.work = s.seq.active.map Active.work := by
    unfold State.ceaseFollow; split <;> simp [State.unbind, Function.comp_def]
  simp only [State.beginStop, State.stopMotion]
  split
  case h_1 => exact .refl s
  case h_2 a ha =>
    rw [ha] at hactive
    split
    · exact WorkKept.trans (.inr (by simpa using hactive)) (State.reachStandstill_workKept _)
    · exact .inr (by simpa using hactive)

theorem State.faultStation_workKept (s : State) (b : Bool) : WorkKept s (s.faultStation b) := by
  have hmarked : WorkKept s ((s.setActive (s.seq.active.map fun a =>
      { a with faultEnded := true, reserved := false })).ceaseFollow) := by
    refine .inr ?_
    unfold State.ceaseFollow; split <;> simp [Function.comp_def]
  unfold State.faultStation
  split
  · exact .refl s
  · exact .inr rfl
  · exact .inr rfl
  · exact .inr rfl
  · exact s.beginStop_workKept _ _ _
  · simp only [State.faultWhileStopping]
    split
    · exact hmarked.trans (State.reachStandstill_workKept _)
    · exact hmarked
  · exact s.endRecord_workKept _
  · exact .refl s

theorem State.recordFault_workKept (s : State) (k : FaultKind) (t : Option Tag) :
    WorkKept s (s.recordFault k t) := by
  have hend : ∀ u : State, ((u.clearHomedFor k).pulseFor k).seq.active = u.seq.active := fun u => by
    unfold State.pulseFor State.startPulse State.clearHomedFor
    repeat' split
    all_goals rfl
  unfold State.recordFault
  split
  · exact .refl s
  · rw [WorkKept, hend]
    exact ((s.logFault k t).raiseInvolved .fault s.own).faultStation_workKept k.immediate

/-- Emitting a step, with the faults it may raise, leaves the work of the record. -/
theorem State.emitStep_workKept (s : State) : WorkKept s s.emitStep := by
  have hreport : ∀ u : State, u.reportStep.seq = u.seq := fun u => by
    simp only [State.reportStep, State.followStep, State.homingStep]
    repeat' split
    all_goals rfl
  have hchecked : WorkKept s (s.checkFollowing (s.setGen s.gen.emit)) := by
    unfold State.checkFollowing
    split
    · exact (s.setGen s.gen.emit).recordFault_workKept _ _
    · exact .inr rfl
  simp only [State.emitStep]
  repeat' split
  · exact s.recordFault_workKept _ _
  · rw [WorkKept, hreport]; exact hchecked
  · exact hchecked

/-- Forming the record and taking the candidate from its place are independent. -/
theorem State.takeCandidate_formRecord (s : State) (src : Source) (w : Work) :
    (s.takeCandidate src).formRecord w = (s.formRecord w).takeCandidate src := by
  cases src <;> rfl

namespace Changes

variable {P : Permit → Prop} {o s : State}

/-! ### Runs -/

theorem commitPoint (h : Changes P o s) : Changes P o s.commitPoint := by
  have hmark : ∀ es : List QueueEntry, SameEntries es (markHead es) := fun es => by
    cases es <;> rfl
  simp only [State.commitPoint]
  repeat' split
  · have hmarked := (h.setGen (g := s.gen.unwatched)).change (.queue { s.queue with
      entries := markHead s.queue.entries } (hmark _) (.inr ⟨rfl, rfl, rfl⟩))
    refine setGen (hmarked.mapActive fun _ => ?_)
    exact ⟨rfl, .inl, .inl, id⟩
  · exact h.setGen
  · exact h.setGen.change (.seq { s.seq with chainBreaks := satSucc 255 s.seq.chainBreaks } rfl rfl
      .inl (satSucc_le 255 _))

theorem orderRun (h : Changes P o s) {w : Work} {n : Int} {f : Nat} :
    Changes P o (s.orderRun w n f) := by
  simp only [State.orderRun]
  split
  · exact h.setGen.commitPoint
  · exact h.setGen

/-- A bound entry starts when the record before it has ended. -/
theorem startChained (h : Changes P o s) {w : Work} {f : Nat} (hs : s.station = .idle) :
    Changes P o (s.startChained w f) := by
  have hformed : Changes P o (s.formRecord w) := h.change (.form w (.inl hs))
  simp only [State.startChained]
  repeat' split
  · exact hformed.recordFault
  · exact hformed.setGen.completeWork
  · exact hformed.orderRun.stopForHalt
  · exact hformed.orderRun

theorem handover (h : Changes P o s) {f : Nat} {a : Active} (ha : s.seq.active = some a) :
    Changes P o (s.handover f) := by
  simp only [State.handover]
  split
  case h_1 => exact h.completeWork
  case h_2 e es he =>
    have hidle : (s.endRecord .done).station = .idle := by rw [s.endRecord_some _ a ha]; rfl
    have htaken := (h.endRecord (r := .done) (by decide)).change (.take .queueHead (by simp [hidle]))
    refine (setGen (htaken.of_eq ?_)).startChained hidle
    rw [s.endRecord_some _ a ha]
    simp [State.takeCandidate, State.setQueue, he]

theorem lastCounted (h : Changes P o s) {a : Active} {r : Run} (ha : s.seq.active = some a) :
    Changes P o (s.lastCounted a r) := by
  unfold State.lastCounted
  split
  · exact h.handover ha
  · exact h.setGen.completeWork

theorem lastPayment (h : Changes P o s) {a : Active} : Changes P o (s.lastPayment a) := by
  unfold State.lastPayment
  split
  · exact h.paymentEnd
  · exact h.reachStandstill

theorem lastClearance (h : Changes P o s) (hp : P .homes) : Changes P o s.lastClearance := by
  unfold State.lastClearance
  split
  · exact h.phaseEnd hp
  · exact h.reachStandstill

/-- Only the last step of a HOME may complete a homing. -/
theorem lastStep (h : Changes P o s) {r : Run} (hp : s.activeKind = some .home → P .homes) :
    Changes P o (s.lastStep r) := by
  unfold State.lastStep
  split
  case h_1 => exact h.setGen
  case h_2 a ha =>
    split
    · exact h.lastCounted ha
    · exact h.lastCounted ha
    · exact h.lastClearance (hp (by simp [State.activeKind, *]))
    · exact h.lastPayment
    · exact h.setGen

theorem standstill (h : Changes P o s) (hp : s.activeKind = some .home → P .homes) :
    Changes P o s.standstill := by
  unfold State.standstill
  split
  case isTrue hr =>
    obtain ⟨hk, -⟩ := Bool.and_eq_true_iff.1 hr
    exact h.phaseEnd (hp (of_decide_eq_true hk))
  case isFalse => exact h.reachStandstill

theorem afterStep (h : Changes P o s) (hp : s.activeKind = some .home → P .homes) :
    Changes P o s.afterStep := by
  unfold State.afterStep
  repeat' split
  · exact h
  · exact h.lastStep hp
  · exact h.standstill hp
  · exact h.commitPoint.setGen
  · exact h.setGen

theorem stepRun (h : Changes P o s) (hp : s.activeKind = some .home → P .homes) :
    Changes P o s.stepRun :=
  h.emitStep.afterStep fun hk => hp (s.emitStep_workKept.activeKind hk)

/-! ### Starts -/

/-- A MOVE or GOTO started from standstill. -/
theorem startCounted (h : Changes P o s) {w : Work} (hk : s.activeKind ≠ some .home) :
    Changes P o (s.startCounted w) := by
  have hkind : ∀ n f, (s.orderRun w n f).activeKind = s.activeKind := fun n f => by
    simp only [State.orderRun, State.commitPoint]
    repeat' split
    all_goals simp [State.activeKind, Function.comp_def]
  unfold State.startCounted
  split
  · exact h.completeWork
  · exact h.orderRun.stepRun fun e => absurd (hkind _ _ ▸ e) hk

theorem startDwell (h : Changes P o s) {n : Nat} : Changes P o (s.startDwell n) :=
  h.mapActive fun _ => ⟨rfl, .inl, .inl, id⟩

theorem handWork (h : Changes P o s) {w : Work} (hk : s.activeKind = some w.kind) :
    Changes P o (s.handWork w) := by
  cases w with
  | segment e =>
    obtain ⟨tag, ins, chain, group, profile, barrier, body, bound⟩ := e
    cases body with
    | move n => exact h.startCounted (by rw [hk]; simp [Work.kind, Body.kind])
    | goto p => exact h.startCounted (by rw [hk]; simp [Work.kind, Body.kind])
    | home d n p b => exact h.startHoming
    | dwell n => exact h.startDwell
    | follow l n d b => exact h.setFollow (.inr (by rfl))
  | residual r =>
    obtain ⟨tag, group, barrier, profile, origin, part⟩ := r
    cases part with
    | move n => exact h.startCounted (by rw [hk]; simp [Work.kind, Remaining.kind])
    | goto p => exact h.startCounted (by rw [hk]; simp [Work.kind, Remaining.kind])
    | dwell n => exact h.startDwell

/-- The checks and the hand-over of a candidate whose record has been formed and which has left its
place. -/
theorem startFormed (h : Changes P o s) {w : Work} (hk : s.activeKind = some w.kind) :
    Changes P o (match s.startFault w with
      | some k => s.recordFault k (some w.tag)
      | none => s.handWork w) := by
  split
  · exact h.recordFault
  · exact h.handWork hk

theorem startCandidate (h : Changes P o s) {src : Source} {w : Work}
    (hs : s.station = .idle ∨ s.station = .held) : Changes P o (s.startCandidate src w) := by
  have htaken : Changes P o ((s.takeCandidate src).formRecord w) := by
    rw [s.takeCandidate_formRecord]
    exact (h.change (.form w hs)).change (.take src (by simp [State.formRecord]))
  exact htaken.startFormed rfl

/-- The candidate of an ARMED station starts with its barrier. -/
theorem startArmed (h : Changes P o s) {src : Source} {w : Work} {b : BarrierRec}
    (hs : s.station = .armed) (hb : s.barrier = some b) :
    Changes P o ((s.setBarrier (some { b with phase := .started })).startCandidate src w) := by
  have htaken : Changes P o (((s.setBarrier (some { b with phase := .started })).takeCandidate
      src).formRecord w) := by
    rw [State.takeCandidate_formRecord]
    exact (h.change (.start w b hs hb)).change (.take src (by simp [State.formRecord]))
  exact htaken.startFormed rfl

/-! ### Barriers -/

theorem readMembers (h : Changes P o s) : Changes P o s.readMembers := by
  simp only [State.readMembers, State.computeStart]
  repeat' split
  · exact h
  · exact h
  · exact h.recordFault
  · exact h.recordFault
  · exact h.change (.barrier _ _ ‹_› (by rfl) (by rfl))
  · exact h

theorem cancelArming (h : Changes P o s) (hs : s.station = .armed) : Changes P o s.cancelArming :=
  h.change (.disarm .held hs (.inl rfl))

theorem arm (h : Changes P o s) {src : Source} {w : Work} {k : BarrierBlock}
    (hs : s.station = .idle ∨ s.station = .held) (hc : s.candidate = some (src, w))
    (hw : w.barrier = some k) : Changes P o (s.arm w.group k) := by
  have harmed : Changes P o ((s.setBarrier (some (s.armedRecord w.group k))).setStation .armed) :=
    h.change (.arm src w _ hs hc (by simp [hw]) rfl rfl)
  have hraised : ∀ (l : List Nat) (u : State), u.station = .armed →
      (l.foldl (fun u m => u.raiseInTable w.group .peerLost m) u).station = .armed := by
    intro l
    induction l with
    | nil => exact fun u hu => hu
    | cons m l ih =>
      refine fun u hu => ih _ ?_
      unfold State.raiseInTable State.setGroup; split <;> exact hu
  simp only [State.arm]
  split
  · exact harmed.readMembers
  · exact cancelArming (foldl harmed fun _ _ hu => hu.raiseInTable) (hraised _ _ rfl)

theorem rearmForEpoch (h : Changes P o s) {b : BarrierRec} (hb : s.barrier = some b) :
    Changes P o (s.rearmForEpoch b) :=
  readMembers (h.change (.barrier b _ hb rfl rfl))

theorem readStatusOf (h : Changes P o s) {a : Nat} : Changes P o (s.readStatusOf a) := by
  unfold State.readStatusOf
  repeat' split
  · exact h
  · exact readMembers (h.change (.barrier _ _ ‹_› (by rfl) (by rfl)))
  · exact h

theorem checkWait (h : Changes P o s) : Changes P o s.checkWait := by
  unfold State.checkWait
  split
  · exact h.recordFault
  · exact h

theorem countWait (h : Changes P o s) : Changes P o s.countWait := by
  unfold State.countWait
  repeat' split
  · exact h
  · exact h.change (.barrier _ _ ‹_› (by rfl) (by rfl))
  · exact h

/-! ### Dispatch -/

theorem dispatchOnce (h : Changes P o s) (hs : s.station = .idle ∨ s.station = .held) :
    Changes P o s.dispatchOnce := by
  unfold State.dispatchOnce
  split
  case h_1 => exact h.change (.quiet .idle hs (.inl rfl))
  case h_2 src w hc =>
    split
    case h_1 => exact h.change (.quiet .idle hs (.inl rfl))
    case h_2 => exact h.change (.quiet .held hs (.inr (.inl rfl)))
    case h_3 k hk =>
      refine h.arm hs hc ?_
      rcases s.gate_cases w with ⟨hg, -⟩ | ⟨hg, -⟩ | ⟨⟨k', hg, hb⟩ | ⟨hg, -⟩, -⟩ <;> rw [hk] at hg
      · cases hg
      · cases hg
      · cases hg; exact hb
      · cases hg
    case h_4 => exact h.startCandidate hs

theorem dispatchRounds {n : Nat} (h : Changes P o s) (hs : s.station = .idle ∨ s.station = .held) :
    Changes P o (State.dispatchRounds n s) := by
  induction n generalizing s with
  | zero => exact h
  | succ n ih =>
    unfold State.dispatchRounds
    split
    case isTrue hagain =>
      obtain ⟨-, hidle⟩ := Bool.and_eq_true_iff.1 hagain
      exact ih (h.dispatchOnce hs) (.inl (of_decide_eq_true hidle))
    case isFalse => exact h.dispatchOnce hs

theorem dispatch (h : Changes P o s) : Changes P o s.dispatch := by
  unfold State.dispatch
  split
  · exact h.dispatchRounds ‹_›
  · exact h

theorem enterIdle (h : Changes P o s) {before : State} : Changes P o (before.enterIdle s) := by
  unfold State.enterIdle
  split
  · exact h.dispatch
  · exact h

/-! ### Changes of a group -/

theorem groupChanged (h : Changes P o s) {g : Nat} : Changes P o (s.groupChanged g) := by
  unfold State.groupChanged
  split
  · unfold State.groupBecameHalted
    split
    · split
      · exact h.stopForHalt.enterIdle
      · exact h
    · split
      · exact h.cancelArming ‹_›
      · exact h
    · exact h.dispatch
    · exact h.dispatch
    all_goals exact h
  · unfold State.groupBecameClear
    split
    · exact h.dispatch
    · exact h.dispatch
    · split
      · exact h
      · split
        · exact h.rearmForEpoch ‹_›
        · exact h
    all_goals exact h

theorem tellChanges (h : Changes P o s) {before : State} : Changes P o (before.tellChanges s) :=
  foldl h fun _ _ hu => hu.groupChanged

theorem raiseHalt (h : Changes P o s) {g : Nat} {c : Cause} {n : Nat} :
    Changes P o (s.raiseHalt g c n) := h.raiseInTable.tellChanges

theorem adopt (h : Changes P o s) {p : PeerStatus} {a : Nat} (hp : P .hears) :
    Changes P o (s.adopt p a) := tellChanges (h.change (.hear _ hp (by simp)))

theorem releaseGroup (h : Changes P o s) {g : Nat} {e : Epoch} {a : Nat} (hp : P .hears) :
    Changes P o (s.releaseGroup g e a) := by
  refine tellChanges ?_
  unfold State.setGroup
  split
  · exact h
  · exact h.change (.hear _ hp (by simp))

/-! ### The parts of a new cycle -/

theorem setPeer (h : Changes P o s) {a : Nat} {e : PeerEntry} : Changes P o (s.setPeer a e) :=
  h.change (.peers _ (by simp))

theorem losePeer (h : Changes P o s) {a : Nat} : Changes P o (s.losePeer a) := by
  have htold : ∀ {u : State}, Changes P o u → Changes P o (u.memberLost a) := by
    intro u hu
    unfold State.memberLost
    repeat' split
    · exact hu
    · exact hu.raiseHalt
    · exact hu
  unfold State.losePeer State.followerLost
  repeat' split
  · exact (htold h.setPeer).checkLeader
  · exact htold h.setPeer
  · exact h

theorem countMisses (h : Changes P o s) : Changes P o s.countMisses :=
  foldl (h.change (.peers _ (by simp))) fun _ _ hu => hu.losePeer

theorem startBarrier (h : Changes P o s) (hd : s.startDue = true) : Changes P o s.startBarrier := by
  obtain ⟨hs, -⟩ := Bool.and_eq_true_iff.1 hd
  unfold State.startBarrier
  split
  · exact (h.startArmed (of_decide_eq_true hs) ‹_›).enterIdle
  · exact h

theorem checkStart (h : Changes P o s) : Changes P o s.checkStart := by
  unfold State.checkStart
  split
  · exact h.startBarrier ‹_›
  · exact h

theorem checkDwell (h : Changes P o s) : Changes P o s.checkDwell := by
  unfold State.checkDwell
  split
  · exact (h.endRecord (by decide)).enterIdle
  · exact h

theorem checkSettle (h : Changes P o s) : Changes P o s.checkSettle := by
  unfold State.checkSettle
  split
  · exact h.faultOfActive
  · exact h

theorem markBarrier (h : Changes P o s) {slip : Bool} : Changes P o (s.markBarrier slip) := by
  unfold State.markBarrier State.slipBarrier
  repeat' split
  · exact h
  · exact h
  · exact h.recordFault
  · exact h.change (.barrier _ _ ‹_› (by rfl) (by rfl))
  · exact h.startBarrier ‹_›
  · exact h.countWait.checkWait

theorem markDwell (h : Changes P o s) {slip : Bool} : Changes P o (s.markDwell slip) := by
  unfold State.markDwell
  split
  · exact h.faultOfActive
  · exact h.checkDwell

theorem countSettle (h : Changes P o s) : Changes P o s.countSettle := h.setEncoder

theorem countSilence (h : Changes P o s) : Changes P o s.countSilence := h.setFollow (.inl rfl)

theorem signalCycle (h : Changes P o s) {slip : Bool} : Changes P o (s.signalCycle slip) := by
  simp only [State.signalCycle]
  split
  · exact h.markDwell.countMisses
  · split
    · exact h.countMisses.markBarrier
    · exact h.countMisses
  · split
    · exact h.countMisses.countSettle.checkSettle
    · exact h.countMisses
  · split
    · exact h.countMisses.countSilence.checkLeader
    · exact h.countMisses
  · exact h.countMisses

end Changes

end Sys2Proof.Machine

/-! ## Proofs: the changes of each command -/

namespace Sys2Proof.Machine

/-- A message is taken while the link is JOINED alone. -/
theorem State.takes_joined {s : State} {d : Byte} (h : s.takes d = true) :
    s.link.state = .joined := ((s.takes_iff d).1 h).1

theorem MsgKind.ofCode_setPosition {n : Nat}
    (h : MsgKind.ofCode n = some .setPosition) : n = 5 := by
  unfold MsgKind.ofCode at h
  split at h <;> simp_all

namespace Changes

variable {P : Permit → Prop} {o s : State}

/-! ### Marks -/

theorem restartTiming (h : Changes P o s) : Changes P o s.restartTiming :=
  h.change (.link _ ⟨rfl, fun _ => rfl, fun _ => rfl, id, id, id, id, id⟩)

theorem newCycle (h : Changes P o s) {m : Cycle} {slip : Bool} : Changes P o (s.newCycle m slip) := by
  have hslips : ∀ l : Link, l.cycleSlips ≤ 255 →
      (if slip then satSucc 255 l.cycleSlips else l.cycleSlips) ≤ 255 := by
    intro l hle
    split
    · exact satSucc_le 255 _ hle
    · exact hle
  refine signalCycle (h.restartTiming.change (.link _ ?_))
  exact ⟨rfl, fun _ => rfl, fun _ => rfl, id, id, hslips _, id, id⟩

/-- A LISTENING station joins, and the level tests and dispatch follow (R27, R169). -/
theorem becomeJoined (h : Changes P o s) {m : Cycle} {b : Bool} (hl : s.link.state = .listening) :
    Changes P o (s.becomeJoined m b) :=
  enterIdle (levelTests (h.change (.join _ hl
    (by exact ⟨rfl, by simp, by simp, id, id, id, id, id⟩))))

theorem clearHeard (h : Changes P o s) : Changes P o s.clearHeard := h.change (.peers _ (by simp))

theorem hearMark (h : Changes P o s) {m : Cycle} {check : Byte} :
    Changes P o (s.hearMark m check) := by
  have hrunning : Changes P o (s.markRunning m) := by
    unfold State.markRunning
    repeat' split
    · exact h.newCycle
    · exact h.restartTiming
    · exact h.newCycle
  unfold State.hearMark
  split
  · exact h
  · split
    · exact h
    · simp only [State.markListening]
      split
      · exact h.clearHeard.becomeJoined ‹_›
      · exact h.clearHeard.change (.link _ ⟨rfl, fun _ => rfl, fun _ => rfl, id, id, id, id, id⟩)
    · exact hrunning
    · exact hrunning

/-- The mark a station sends itself is noted unless it is SILENT. -/
theorem noteMarkSent (h : Changes P o s) {x : Option (List Byte)} (hl : s.link.state ≠ .silent) :
    Changes P o (s.setLink { s.link with markSent := x }) :=
  h.change (.link _ ⟨rfl, fun _ => rfl, fun e => absurd e hl, id, id, id, id, id⟩)

theorem markTimerExpiry (h : Changes P o s) :
    Changes P o (if s.link.state = .joined then
      (s.setLink { s.link with markSent := some (markBytes (s.link.cycle + 1)) }).newCycle
        (s.link.cycle + 1) false
    else s) := by
  split
  case isTrue hj => exact (h.noteMarkSent (by simp [hj])).newCycle
  case isFalse => exact h

theorem silenceTimerExpiry (h : Changes P o s) :
    Changes P o (if s.link.state = .listening then
      ((s.setLink { s.link with markSent := some (markBytes 0) }).clearHeard).becomeJoined 0 false
    else s) := by
  split
  case isTrue hl => exact (h.noteMarkSent (by simp [hl])).clearHeard.becomeJoined hl
  case isFalse => exact h

/-! ### Messages -/

theorem takeSegment (h : Changes P o s) (answers : P .answers) {body : List Byte} : Changes P o (s.takeSegment body) := by
  have haccept : ∀ e, s.acceptRefusal e = none → Changes P o (s.accept e) := by
    intro e he
    have hroom : s.queue.entries.length < 16 := by
      unfold State.acceptRefusal at he; split at he <;> [cases he; omega]
    have hinsert : e.insert = true → s.insertRefusal = none := by
      intro hi
      unfold State.acceptRefusal at he
      rwa [if_neg (by omega), if_pos hi] at he
    have hplaced := h.change (.place e hroom (fun ha => by
      cases hi : e.insert with
      | false => rfl
      | true => simpa [State.insertRefusal, ha] using hinsert hi) answers)
    simp only [State.accept]
    split
    case isTrue hp =>
      obtain ⟨hi, hpre⟩ := Bool.and_eq_true_iff.1 hp
      have hrun : s.station = .running := of_decide_eq_true (Bool.and_eq_true_iff.1 hpre).1
      have hstack : s.stack.residuals.length + 1 ≤ 3 := by
        have := hinsert hi
        simp only [State.insertRefusal, hrun, hpre, if_true] at this
        split at this
        · assumption
        · cases this
      exact (hplaced.beginStop (fun _ => hstack) (by simp)).enterIdle
    case isFalse => exact hplaced.dispatch
  unfold State.takeSegment State.takeCurrent
  repeat' split
  · exact h.refuse answers
  · exact h.refuse answers
  · exact h.refuse answers
  · exact haccept _ ‹_›
  · exact h
  · exact h.refuse answers

theorem takeFlush (h : Changes P o s) (answers : P .answers) {body : List Byte} : Changes P o (s.takeFlush body) := by
  simp only [State.takeFlush, State.doFlush]
  repeat' split
  · exact h.refuse answers
  · exact h.change (.flush _)
  · exact (h.change (.flush _)).dispatch

theorem setLatch (h : Changes P o s) : Changes P o s.setLatch := h.setSeq rfl rfl .inl rfl

theorem takeStop (h : Changes P o s) (answers : P .answers) {body : List Byte} : Changes P o (s.takeStop body) := by
  have hdisposition : s.pauseDisposition ≠ .preempt := by
    unfold State.pauseDisposition; repeat' split
    all_goals decide
  have hquiet : ∀ m, Changes P o (s.stopQuiet m) := by
    intro m
    unfold State.stopQuiet
    repeat' split
    · exact h.refuse answers
    · exact h.refuse answers
    · exact h
    · exact h.setLatch.dispatch
  unfold State.takeStop State.doStop
  split
  case h_1 => exact h.refuse answers
  case h_2 m _ =>
    split
    case h_1 =>
      cases m with
      | abortDecel => exact (h.beginPlainStop (by decide)).enterIdle
      | abortImmediate => exact (h.beginPlainStop (by decide)).enterIdle
      | pause => exact (h.setLatch.beginPlainStop hdisposition).enterIdle
    case h_2 =>
      cases m with
      | abortDecel => exact h
      | abortImmediate => exact h.reachStandstill.enterIdle
      | pause => exact h.setLatch
    case h_3 => exact hquiet m
    case h_4 => exact hquiet m
    case h_5 => exact hquiet m
    case h_6 => exact h.refuse answers
    case h_7 => exact h.refuse answers
    case h_8 => exact h

theorem takeContinue (h : Changes P o s) (answers : P .answers) {body : List Byte} : Changes P o (s.takeContinue body) := by
  unfold State.takeContinue
  repeat' split
  · exact h.refuse answers
  · exact (h.setSeq (q := { s.seq with paused := false }) rfl rfl .inl rfl).dispatch
  · exact h

theorem takeSetPosition (h : Changes P o s) (answers : P .answers) {body : List Byte}
    (hp : (byteAt body 4).getLsbD 0 = true → P .homes) : Changes P o (s.takeSetPosition body) := by
  have hset : Changes P o (s.doSetPosition (position32 body 0) ((byteAt body 4).getLsbD 0)) := by
    refine setSeq (h.setGen.setEncoder) rfl rfl (fun hh => ?_) rfl
    exact (Bool.or_eq_true_iff.1 hh).imp id hp
  unfold State.takeSetPosition
  split
  · exact h.refuse answers
  · split
    · exact h.refuse answers
    · exact h.refuse answers
    · exact h.refuse answers
    · exact hset
    · exact hset
    · exact hset
    · exact hset
    · exact h

theorem takeHalt (h : Changes P o s) (answers : P .answers) {a : Nat} {body : List Byte} :
    Changes P o (s.takeHalt a body) := by
  unfold State.takeHalt
  split
  · exact h.raiseHalt
  · exact h.refuse answers

theorem takeRelease (h : Changes P o s) (answers : P .answers) {a : Nat} {body : List Byte} (hp : P .hears) :
    Changes P o (s.takeRelease a body) := by
  unfold State.takeRelease
  split
  · exact h.releaseGroup hp
  · exact h.refuse answers

theorem takeStatus (h : Changes P o s) {a : Nat} {body : List Byte} (hp : P .hears) :
    Changes P o (s.takeStatus a body) := by
  unfold State.takeStatus State.readStatus State.followStatus
  repeat' split
  · exact h
  · exact h
  · exact ((h.setPeer.adopt hp).readStatusOf.convertLeader).enterIdle
  · exact (h.setPeer.adopt hp).readStatusOf

theorem takeClearFault (h : Changes P o s) (answers : P .answers) {body : List Byte} (hp : P .clears) :
    Changes P o (s.takeClearFault body) := by
  unfold State.takeClearFault
  repeat' split
  · exact h.refuse answers
  · exact h.refuse answers
  · exact h.refuse answers
  · exact (h.change (.endEpisode hp (not_not.1 ‹_›))).enterIdle

theorem takeQuery (h : Changes P o s) (answers : P .answers) {a : Nat} {body : List Byte} :
    Changes P o (s.takeQuery a body) := by
  unfold State.takeQuery
  split
  · exact h.refuse answers
  · refine h.change (.link _ ⟨rfl, fun _ => rfl, fun _ => rfl, id, id, id, fun hle => ?_, id⟩)
    change (if _ then satSucc 255 _ else _) ≤ 255
    split
    · exact satSucc_le 255 _ hle
    · exact hle

theorem takeReset (h : Changes P o s) (answers : P .answers) {a : Nat} {body : List Byte} (hj : s.link.state = .joined)
    (hp : P .clears) : Changes P o (s.takeReset a body) := by
  simp only [State.takeReset]
  split
  · exact h.refuse answers
  · exact (h.raiseInvolved.change (.reset hp hj)).levelTests.dispatch

/-! ### Frames -/

theorem listen (h : Changes P o s) {heard : Option (List Byte)} : Changes P o (s.listen heard) := by
  simp only [State.listen]
  split
  case h_1 sent hj hsent =>
    have hcounted : LinkKept s.link (s.countListen (decide (heard = some sent))).link := by
      refine ⟨rfl, fun e => by simp [hj] at e, fun _ => rfl, id, id, id, id, fun hle => ?_⟩
      change (if _ then 0 else satSucc 3 _) ≤ 3
      split
      · omega
      · exact satSucc_le 3 _ hle
    split
    · exact (((h.change (.link _ hcounted)).change (.silence _ hj
        (by exact ⟨rfl, fun _ => rfl, fun _ => rfl, id, id, id, id, id⟩))).faultOfActive).enterIdle
    · exact h.change (.link _ hcounted)
  all_goals exact h

theorem clearCounters (h : Changes P o s) (answers : P .answers) : Changes P o s.clearCounters := by
  have hrefusal := h.change (.queue { s.queue with refusal := { s.queue.refusal with count := 0 } } rfl
    (.inl answers))
  have hbreaks := hrefusal.change (.seq { s.seq with chainBreaks := 0 } rfl rfl .inl (by simp))
  have hoverflow := hbreaks.change (.overflow { s.stack with overflowCount := 0 } rfl (by simp))
  exact hoverflow.change (.link _ ⟨rfl, fun _ => rfl, fun _ => rfl, by simp, by simp, by simp,
    by simp, id⟩)

theorem slotBegins (h : Changes P o s) (answers : P .answers) (hj : s.link.state = .joined) :
    Changes P o s.slotBegins := by
  have hsent : Changes P o s.sendSlot :=
    (h.change (.link _
      (by exact ⟨rfl, fun e => by simp [hj] at e, fun _ => rfl, id, id, id, id, id⟩))).setPeer
  unfold State.slotBegins
  split
  · exact hsent
  · simp only [State.afterReport]
    split
    · exact (hsent.change (.openCount _)).clearCounters answers
    · exact hsent.change (.openCount _)

/-- A message goes to its owner; what it may do is what its kind and body say. -/
theorem handTo (h : Changes P o s) (answers : P .answers) {k : MsgKind} {a : Nat} {body : List Byte}
    (hj : s.link.state = .joined) (hears : P .hears) (clears : P .clears)
    (homes : k = .setPosition → (byteAt body 4).getLsbD 0 = true → P .homes) :
    Changes P o (s.handTo k a body) := by
  cases k with
  | segment => exact h.takeSegment answers
  | flush => exact h.takeFlush answers
  | stop => exact h.takeStop answers
  | resume => exact h.takeContinue answers
  | setPosition => exact h.takeSetPosition answers (homes rfl)
  | halt => exact h.takeHalt answers
  | release => exact h.takeRelease answers hears
  | clearFault => exact h.takeClearFault answers clears
  | query => exact h.takeQuery answers
  | stationReset => exact h.takeReset answers hj clears

theorem handMessage (h : Changes P o s) (answers : P .answers) {a : Nat} {m : Message} (hears : P .hears)
    (clears : P .clears) (homes : m.kind = 5 → (byteAt m.body 4).getLsbD 0 = true → P .homes) :
    Changes P o (s.handMessage a m) := by
  unfold State.handMessage
  split
  · split
    · exact h.takeStatus hears
    · exact h
  · split
    · exact h
    · split
      · refine h.handTo answers (State.takes_joined ‹_›) hears clears fun e => homes ?_
        subst e
        exact BitVec.eq_of_toNat_eq (MsgKind.ofCode_setPosition ‹_›)
      · exact h

theorem hearTransmission (h : Changes P o s) (answers : P .answers) {own : Bool} {n : Nat} {bytes : List Byte}
    (hears : P .hears) (clears : P .clears)
    (homes : ∀ m ∈ frameMessages bytes, m.kind = 5 → (byteAt m.body 4).getLsbD 0 = true → P .homes) :
    Changes P o (s.hearTransmission own n bytes) := by
  have hslot : Changes P o s.dropForSlot :=
    h.change (.link _ ⟨rfl, fun _ => rfl, fun _ => rfl, id, satSucc_le 255 _, id, id, id⟩)
  simp only [State.hearTransmission, State.windowMark, State.checkFrame]
  repeat' split
  · exact h
  · exact h.listen
  · exact h.hearMark
  · exact h
  · exact h.change (.link _ ⟨rfl, fun _ => rfl, fun _ => rfl, satSucc_le 65535 _, id, id, id, id⟩)
  · exact hslot
  · exact hslot
  · exact foldl h.setPeer fun m hm hu => hu.handMessage answers hears clears (homes m hm)

/-! ### Inputs -/

theorem limitChange (h : Changes P o s) {d : Side} {active : Bool} :
    Changes P o (s.limitChange d active) := by
  have hset : Changes P o (s.setLimit d active) := by cases d <;> exact h.setDrive
  simp only [State.limitChange, State.limitReached, State.judgeLimit]
  repeat' split
  · exact hset.judgeHomingLimit.enterIdle
  · exact hset.faultOfActive.enterIdle
  · exact hset.enterIdle
  · exact hset

theorem homeChange (h : Changes P o s) {active : Bool} (hp : s.activeKind = some .home → P .homes) :
    Changes P o (s.homeChange active) := by
  have hset : Changes P o (s.setDrive { s.drive with home := active }) := h.setDrive
  simp only [State.homeChange]
  split
  case isTrue hr =>
    have hhomes := hp (of_decide_eq_true (Bool.and_eq_true_iff.1 hr).1)
    split
    · exact (hset.homeActive hhomes).enterIdle
    · exact (hset.homeInactive hhomes).enterIdle
  case isFalse => exact hset

theorem indexRises (h : Changes P o s) (hp : s.activeKind = some .home → P .homes) :
    Changes P o s.indexRises := by
  have hset : Changes P o (s.setDrive { s.drive with encZ := true }) := h.setDrive
  simp only [State.indexRises]
  split
  case isTrue hr =>
    exact (hset.countIndex (hp (of_decide_eq_true (Bool.and_eq_true_iff.1 hr).1))).enterIdle
  case isFalse => exact hset

theorem drvFltChange (h : Changes P o s) {active : Bool} : Changes P o (s.drvFltChange active) := by
  simp only [State.drvFltChange]
  split
  · exact h.setDrive.faultOfActive
  · exact h.setDrive

theorem holdoffEnds (h : Changes P o s) : Changes P o s.holdoffEnds := h.setDrive.dispatch

theorem pulseEnds (h : Changes P o s) : Changes P o s.pulseEnds := by
  simp only [State.pulseEnds]
  split
  · exact h.setDrive.holdoffEnds
  · exact h.setDrive

theorem idles (h : Changes P o s) : Changes P o s.idles := by
  unfold State.idles
  split
  · exact h.setDrive.change (.indexCount _)
  · exact h

/-! ### Start-up -/

theorem judgeRecord (h : Changes P o s) {bytes : List Byte} {straps : BitVec 5} {levels : BitVec 7}
    (hl : s.loader.load = .loading) : Changes P o (s.judgeRecord bytes straps levels) := by
  unfold State.judgeRecord
  repeat' split
  · exact h.change (.failLoad hl)
  · exact h.change (.useRecord _ _ _ hl)
  · exact h.change (.failLoad hl)

end Changes

/-! ### Every command -/

/-- What a command may do: HOMED is set by a SET_POSITION with its option, alone or in a frame, and by the
happenings that complete an active HOME; the Fault Log is emptied by CLEAR_FAULT and STATION_RESET; a
group state is heard in a RELEASE or a STATUS. A frame may carry any of them. -/
def permits (c : Instr) (s : State) : Permit → Prop
  | .homes =>
    (∃ x d b, c = .setPosition x d b ∧ (byteAt b 4).getLsbD 0 = true) ∨
    (∃ o n bs, c = .frameReceived o n bs ∧
      ∃ m ∈ frameMessages bs, m.kind = 5 ∧ (byteAt m.body 4).getLsbD 0 = true) ∨
    (s.activeKind = some .home ∧ ((∃ a, c = .homeInputChange a) ∨ c = .indexEdge ∨ c = .stepDue))
  | .clears => (∃ x d b, c = .clearFault x d b) ∨ (∃ x d b, c = .stationReset x d b) ∨
    ∃ o n bs, c = .frameReceived o n bs
  | .hears => (∃ x d b, c = .release x d b) ∨ (∃ x d b, c = .status x d b) ∨
    ∃ o n bs, c = .frameReceived o n bs
  | .answers => True

/-- The state a chain of changes leads to under a condition, and the state itself otherwise. -/
theorem Changes.ite {P : Permit → Prop} {o s t : State} {c : Prop} [Decidable c] (h : Changes P o s)
    (ht : c → Changes P o t) : Changes P o (if c then t else s) := by
  split
  · exact ht ‹_›
  · exact h

/-- Every command but POWER_ON and PIN_RESET answers a state that a chain of changes leads to. -/
theorem exec_changes (c : Instr) (s : State) (hpower : c ≠ .powerOn) (hpin : c ≠ .pinReset) :
    ∃ t, exec c s = .next t ∧ Changes (permits c s) s t := by
  have h : Changes (permits c s) s s := .refl s
  cases c with
  | powerOn => exact absurd rfl hpower
  | pinReset => exact absurd rfl hpin
  | resetPinRelease => exact ⟨_, rfl, h.ite fun _ => h.change (.loader _ rfl rfl rfl)⟩
  | configLoadDone bytes straps levels =>
    refine ⟨_, rfl, h.ite fun hr => h.judgeRecord ?_⟩
    exact of_decide_eq_true (Bool.and_eq_true_iff.1 hr).1
  | configReadTimeout =>
    refine ⟨_, rfl, h.ite fun hr => h.change (.failLoad ?_)⟩
    exact of_decide_eq_true (Bool.and_eq_true_iff.1 hr).1
  | markHeard m check => exact ⟨_, rfl, h.hearMark⟩
  | markTimerExpiry => exact ⟨_, rfl, h.markTimerExpiry⟩
  | silenceTimerExpiry => exact ⟨_, rfl, h.silenceTimerExpiry⟩
  | peerLost a => exact ⟨_, rfl, h.losePeer⟩
  | dwellEnd => exact ⟨_, rfl, h.checkDwell⟩
  | barrierStart => exact ⟨_, rfl, h.checkStart⟩
  | barrierTimeout => exact ⟨_, rfl, h.checkWait⟩
  | settleTimeout => exact ⟨_, rfl, h.checkSettle⟩
  | followLost => exact ⟨_, rfl, h.checkLeader⟩
  | frameReceived own n bytes =>
    refine ⟨_, rfl, h.hearTransmission trivial ?_ ?_ fun m hm hk hb => ?_⟩
    · exact .inr (.inr ⟨_, _, _, rfl⟩)
    · exact .inr (.inr ⟨_, _, _, rfl⟩)
    · exact .inr (.inl ⟨_, _, _, rfl, m, hm, hk, hb⟩)
  | status a d body => exact ⟨_, rfl, h.ite fun _ => h.takeStatus (.inr (.inl ⟨_, _, _, rfl⟩))⟩
  | segment a d body => exact ⟨_, rfl, h.ite fun _ => h.takeSegment trivial⟩
  | flush a d body => exact ⟨_, rfl, h.ite fun _ => h.takeFlush trivial⟩
  | stop a d body => exact ⟨_, rfl, h.ite fun _ => h.takeStop trivial⟩
  | resume a d body => exact ⟨_, rfl, h.ite fun _ => h.takeContinue trivial⟩
  | setPosition a d body =>
    exact ⟨_, rfl, h.ite fun _ => h.takeSetPosition trivial fun hb => .inl ⟨_, _, _, rfl, hb⟩⟩
  | halt a d body => exact ⟨_, rfl, h.ite fun _ => h.takeHalt trivial⟩
  | release a d body => exact ⟨_, rfl, h.ite fun _ => h.takeRelease trivial (.inl ⟨_, _, _, rfl⟩)⟩
  | clearFault a d body => exact ⟨_, rfl, h.ite fun _ => h.takeClearFault trivial (.inl ⟨_, _, _, rfl⟩)⟩
  | query a d body => exact ⟨_, rfl, h.ite fun _ => h.takeQuery trivial⟩
  | stationReset a d body =>
    exact ⟨_, rfl, h.ite fun ht => h.takeReset trivial (State.takes_joined ht) (.inr (.inl ⟨_, _, _, rfl⟩))⟩
  | slotStart => exact ⟨_, rfl, h.ite fun hj => h.slotBegins trivial hj.1⟩
  | listenBack heard => exact ⟨_, rfl, h.listen⟩
  | stepDue =>
    exact ⟨_, rfl, h.ite fun _ => (h.stepRun fun hk => .inr (.inr ⟨hk, .inr (.inr rfl)⟩)).enterIdle⟩
  | limitInputChange d active => exact ⟨_, rfl, h.ite fun _ => h.limitChange⟩
  | homeInputChange active =>
    exact ⟨_, rfl, h.ite fun _ => h.homeChange fun hk => .inr (.inr ⟨hk, .inl ⟨_, rfl⟩⟩)⟩
  | indexEdge =>
    exact ⟨_, rfl, h.ite fun _ => h.indexRises fun hk => .inr (.inr ⟨hk, .inr (.inl rfl)⟩)⟩
  | drvFltChange active => exact ⟨_, rfl, h.ite fun _ => h.drvFltChange⟩
  | encoderChange a b => exact ⟨_, rfl, h.ite fun _ => h.pairChange.enterIdle⟩
  | drvClrPulseEnd => exact ⟨_, rfl, h.ite fun _ => h.pulseEnds⟩
  | holdoffEnd => exact ⟨_, rfl, h.ite fun _ => h.holdoffEnds⟩

end Sys2Proof.Machine

/-! ## Proofs: what every step keeps -/

namespace Sys2Proof.Machine

/-- POWER_ON and PIN_RESET answer the power-on values, and any other command a state that a chain of
changes leads to. -/
theorem exec_cases (c : Instr) (s t : State) (h : exec c s = .next t) :
    ((c = .powerOn ∨ c = .pinReset) ∧ ∃ pin, t = s.powerOnValues pin) ∨
    (c ≠ .powerOn ∧ c ≠ .pinReset ∧ Changes (permits c s) s t) := by
  by_cases hpower : c = .powerOn
  · subst hpower; cases h; exact .inl ⟨.inl rfl, _, rfl⟩
  · by_cases hpin : c = .pinReset
    · subst hpin; cases h; exact .inl ⟨.inr rfl, _, rfl⟩
    · obtain ⟨u, hu, hchanges⟩ := exec_changes c s hpower hpin
      cases hu.symm.trans h
      exact .inr ⟨hpower, hpin, hchanges⟩

/-- What holds of the power-on values and is kept by every elementary change, whatever waits, is kept by
every step. -/
theorem step_keeps {I : State → Prop} (hreset : ∀ s pin, I (State.powerOnValues s pin))
    (hpending : ∀ s l, I s → I (s.setPending l))
    (hchange : ∀ P s t, Change P s t → I s → I t) (s t : State) (hs : I s) (h : step s = .next t) :
    I t := by
  unfold step at h
  split at h
  case h_1 =>
    cases h
    exact (Changes.idles (P := fun _ => False) (.refl s)).keeps (hchange _) hs
  case h_2 c rest _ =>
    rcases exec_cases c _ t h with ⟨-, pin, rfl⟩ | ⟨-, -, hc⟩
    · exact hreset _ _
    · exact hc.keeps (hchange _) (hpending s rest hs)

/-! ### Tables and counters (R16, R42, R81, R139, R174, R180, R182) -/

/-- CLEAR sets the seven counters to 0 and leaves all else (R189). -/
theorem State.clearCounters_eq (s : State) : s.clearCounters = { s with
    link := { s.link with crcErrors := 0, slotViolations := 0, cycleSlips := 0, droppedQueries := 0 }
    queue := { s.queue with refusal := { s.queue.refusal with count := 0 } }
    stack := { s.stack with overflowCount := 0 }
    seq := { s.seq with chainBreaks := 0 } } := rfl

/-- Items 3 and 4 of R195. -/
theorem State.emptyWork_eq (s : State) : s.emptyWork = { s with
    link := { s.link with crcErrors := 0, slotViolations := 0, cycleSlips := 0, droppedQueries := 0 }
    queue := .reset, stack := .reset
    seq := { s.seq with paused := false, chainBreaks := 0 }
    faults := .reset } := by
  simp only [State.emptyWork, State.clearCounters_eq]
  rfl

/-- The work of a station under STATION_RESET, without the level tests (R195): record, queue, stack,
latch, Fault Log and counters are emptied, and all else stays. -/
theorem State.resetWork_eq (s : State) : s.abortMotion.emptyWork.setStation .idle = { s with
    link := { s.link with crcErrors := 0, slotViolations := 0, cycleSlips := 0, droppedQueries := 0 }
    queue := .reset, stack := .reset
    seq := { s.seq with
      station := .idle, active := none, paused := false, chainBreaks := 0
      lastFinished := match s.seq.active with
        | none => s.seq.lastFinished
        | some a => some (a.work.tag, .aborted) }
    gen := s.gen.ceased, homing := .reset, follow := .reset
    encoder := { s.encoder with settle := none }, barrier := none, faults := .reset } := by
  cases ha : s.seq.active with
  | none =>
    rw [State.abortMotion, s.endRecord_none _ ha, State.emptyWork_eq, State.dropRecord_eq]; rfl
  | some a =>
    rw [State.abortMotion, s.endRecord_some _ a ha, State.emptyWork_eq, State.dropRecord_eq]; rfl

/-- A successful load, whole (R191). -/
theorem State.useRecord_eq (s : State) (c : Settings) (a : Nat) (levels : BitVec 7) :
    s.useRecord c a levels = { s with
      loader := { s.loader with load := .loaded, settings := c, address := a }
      drive := s.drive.taken c.polarities levels
      encoder := { s.encoder with
        pair := some ((s.drive.taken c.polarities levels).encA,
          (s.drive.taken c.polarities levels).encB) }
      gen := { s.gen with dirHigh := dirLevel c .pos }
      link := { s.link with
        state := .listening, silenceTimer := some (4 * c.nominalCycle) } } := by
  simp only [State.useRecord, State.silenceTimerLength]
  rfl

/-- A pushed residual stands on top, its record is discarded and the station enters IDLE (R80). -/
theorem State.pushResidual_eq (s : State) (r : Residual) : s.pushResidual r = { s with
    gen := s.gen.ceased, homing := .reset, follow := .reset
    encoder := { s.encoder with settle := none }, barrier := none
    seq := { s.seq with station := .idle, active := none }
    stack := { s.stack with residuals := r :: s.stack.residuals } } := by
  rw [State.pushResidual, s.dropRecord_eq]; rfl

theorem Change.keeps_sizes {P : Permit → Prop} {s t : State} (h : Change P s t) (hs : s.sizesOk) :
    t.sizesOk := by
  obtain ⟨hpeers, hgroups⟩ := hs
  cases h with
  | groups gs hlen => exact ⟨hpeers, hlen.trans hgroups⟩
  | hear gs _ hlen => exact ⟨hpeers, hlen.trans hgroups⟩
  | peers ps hlen => exact ⟨hlen.trans hpeers, hgroups⟩
  | reset => rw [s.resetWork_eq]; exact ⟨hpeers, hgroups⟩
  | endRecord r =>
    cases ha : s.seq.active with
    | none => rw [s.endRecord_none r ha]; exact ⟨hpeers, hgroups⟩
    | some a => rw [s.endRecord_some r a ha]; exact ⟨hpeers, hgroups⟩
  | pushResidual => rw [s.pushResidual_eq]; exact ⟨hpeers, hgroups⟩
  | useRecord => rw [s.useRecord_eq]; exact ⟨hpeers, hgroups⟩
  | take src => cases src <;> exact ⟨hpeers, hgroups⟩
  | _ => exact ⟨hpeers, hgroups⟩

theorem FaultLog.record_count_le (f : FaultLog) (e : FaultEntry) (h : f.count ≤ 255) :
    (f.record e).count ≤ 255 := by
  unfold FaultLog.record
  split
  · change 1 ≤ 255
    omega
  · exact satSucc_le 255 _ h

theorem Change.keeps_counters {P : Permit → Prop} {s t : State} (h : Change P s t)
    (hs : s.countersOk) : t.countersOk := by
  obtain ⟨hcrc, hslot, hslip, hquery, hlisten, hbreaks, hover, hfaults, hfollow⟩ := hs
  have hlink : ∀ {l : Link}, LinkKept s.link l → l.crcErrors ≤ 65535 ∧ l.slotViolations ≤ 255 ∧
      l.cycleSlips ≤ 255 ∧ l.droppedQueries ≤ 255 ∧ l.listenFailures ≤ 3 := fun hl =>
    ⟨hl.crcErrors hcrc, hl.slotViolations hslot, hl.cycleSlips hslip, hl.droppedQueries hquery,
      hl.listenFailures hlisten⟩
  cases h with
  | follow f hf => exact ⟨hcrc, hslot, hslip, hquery, hlisten, hbreaks, hover, hfaults, hf hfollow⟩
  | link l hl =>
    obtain ⟨h1, h2, h3, h4, h5⟩ := hlink hl
    exact ⟨h1, h2, h3, h4, h5, hbreaks, hover, hfaults, hfollow⟩
  | join l _ hl =>
    exact ⟨hl.crcErrors hcrc, hl.slotViolations hslot, hl.cycleSlips hslip, hl.droppedQueries hquery,
      hl.listenFailures hlisten, hbreaks, hover, hfaults, hfollow⟩
  | silence l _ hl =>
    exact ⟨hl.crcErrors hcrc, hl.slotViolations hslot, hl.cycleSlips hslip, hl.droppedQueries hquery,
      hl.listenFailures hlisten, hbreaks, hover, hfaults, hfollow⟩
  | logFault k tag =>
    exact ⟨hcrc, hslot, hslip, hquery, hlisten, hbreaks, hover,
      s.faults.record_count_le _ hfaults, hfollow⟩
  | endEpisode => exact ⟨hcrc, hslot, hslip, hquery, hlisten, hbreaks, hover, Nat.zero_le _, hfollow⟩
  | reset =>
    rw [s.resetWork_eq]
    exact ⟨Nat.zero_le _, Nat.zero_le _, Nat.zero_le _, Nat.zero_le _, hlisten,
      Nat.zero_le _, Nat.zero_le _, Nat.zero_le _, Nat.zero_le _⟩
  | seq q _ _ _ hc => exact ⟨hcrc, hslot, hslip, hquery, hlisten, hc hbreaks, hover, hfaults, hfollow⟩
  | endRecord =>
    cases ha : s.seq.active with
    | none =>
      rw [s.endRecord_none _ ha]
      exact ⟨hcrc, hslot, hslip, hquery, hlisten, hbreaks, hover, hfaults, hfollow⟩
    | some a =>
      rw [s.endRecord_some _ a ha]
      exact ⟨hcrc, hslot, hslip, hquery, hlisten, hbreaks, hover, hfaults, Nat.zero_le _⟩
  | useRecord =>
    rw [s.useRecord_eq]
    exact ⟨hcrc, hslot, hslip, hquery, hlisten, hbreaks, hover, hfaults, hfollow⟩
  | pushResidual =>
    rw [s.pushResidual_eq]
    exact ⟨hcrc, hslot, hslip, hquery, hlisten, hbreaks, hover, hfaults, Nat.zero_le _⟩
  | overflow x _ hc =>
    exact ⟨hcrc, hslot, hslip, hquery, hlisten, hbreaks, hc hover, hfaults, hfollow⟩
  | take src => cases src <;> exact ⟨hcrc, hslot, hslip, hquery, hlisten, hbreaks, hover, hfaults, hfollow⟩
  | _ => exact ⟨hcrc, hslot, hslip, hquery, hlisten, hbreaks, hover, hfaults, hfollow⟩

theorem State.powerOnValues_sizes (s : State) (pin : Bool) : (s.powerOnValues pin).sizesOk :=
  ⟨rfl, rfl⟩

theorem State.powerOnValues_counters (s : State) (pin : Bool) : (s.powerOnValues pin).countersOk := by
  change State.reset.countersOk
  decide

/-- Settles O56: no elementary change alters the length of a table or takes a counter beyond its width. -/
theorem tablesAndCountersAreKept : Obligations.TablesAndCountersAreKept := by
  intro s t hsizes hcounters hstep
  exact ⟨step_keeps State.powerOnValues_sizes (fun _ _ h => h) (fun _ _ _ h => h.keeps_sizes)
      s t hsizes hstep,
    step_keeps State.powerOnValues_counters (fun _ _ h => h) (fun _ _ _ h => h.keeps_counters)
      s t hcounters hstep⟩

/-! ### The stack (R73, R79) -/

/-- With this active record the residuals and the reserved place fit the stack. -/
theorem State.stackOk_iff (s : State) : s.stackOk ↔
    s.stack.residuals.length + (s.seq.active.map fun a => a.reserved.toNat).getD 0 ≤ 3 ∧
      ∀ a, s.seq.active = some a → a.placeOk = true := by
  cases h : s.seq.active <;> simp [State.stackOk, State.placesTaken, h]

/-- A station without a record takes only the places of its residuals. -/
theorem State.stackOk_of_noRecord {s : State} (ha : s.seq.active = none)
    (hl : s.stack.residuals.length ≤ 3) : s.stackOk := by
  rw [s.stackOk_iff, ha]
  exact ⟨by simpa using hl, by simp⟩

theorem keepHead_length_le {α : Type} (keep : Bool) (p : α → Bool) (l : List α) :
    (keepHead keep p l).length ≤ l.length := by
  cases l with
  | nil => exact Nat.le_refl _
  | cons x xs =>
    cases keep with
    | true => exact Nat.succ_le_succ (List.length_filter_le p xs)
    | false => exact List.length_filter_le p (x :: xs)

theorem Change.keeps_stack {P : Permit → Prop} {s t : State} (h : Change P s t) (hs : s.stackOk) :
    t.stackOk := by
  obtain ⟨hplaces, hplace⟩ := s.stackOk_iff.1 hs
  have hlen : s.stack.residuals.length ≤ 3 := by omega
  cases h with
  | reset =>
    rw [s.resetWork_eq]
    exact State.stackOk_of_noRecord rfl (Nat.zero_le _)
  | seq q _ ha =>
    rw [State.stackOk_iff]
    exact ⟨by simpa [ha] using hplaces, by simpa [ha] using hplace⟩
  | endRecord r =>
    cases ha : s.seq.active with
    | none => rwa [s.endRecord_none r ha]
    | some a => rw [s.endRecord_some r a ha]; exact State.stackOk_of_noRecord rfl hlen
  | pushResidual r a ha hroom =>
    rw [s.pushResidual_eq]
    refine State.stackOk_of_noRecord rfl ?_
    change s.stack.residuals.length + 1 ≤ 3
    rcases hroom with hroom | ⟨hd, hf⟩
    · exact hroom
    · have hreserved : a.reserved = true := by simpa [Active.placeOk, hd, hf] using hplace a ha
      simp only [ha, Option.map_some, hreserved, Bool.toNat_true, Option.getD_some] at hplaces
      omega
  | overflow x hr =>
    rw [State.stackOk_iff]
    exact ⟨by simpa [hr] using hplaces, hplace⟩
  | useRecord => rwa [s.useRecord_eq]
  | flush scope =>
    rw [State.stackOk_iff]
    have := keepHead_length_le (decide (s.armedAt = some .stackTop))
      (fun r => !scope.takesResidual r.group) s.stack.residuals
    refine ⟨?_, hplace⟩
    change (s.flushedResiduals scope).length + _ ≤ 3
    unfold State.flushedResiduals
    exact Nat.le_trans (Nat.add_le_add_right this _) hplaces
  | take src =>
    cases src with
    | queueHead => exact hs
    | stackTop =>
      rw [State.stackOk_iff]
      refine ⟨Nat.le_trans (Nat.add_le_add_right ?_ _) hplaces, hplace⟩
      simp [State.takeCandidate]
  | active a a' ha hkept =>
    rw [State.stackOk_iff]
    refine ⟨?_, fun b hb => ?_⟩
    · simp only [State.setActive_seq, State.setActive_stack, Option.map_some, Option.getD_some]
      cases hr : a'.reserved with
      | false => simpa using hlen
      | true =>
        rcases hkept.reserved hr with hr | hr
        · simpa [ha, hr] using hplaces
        · simpa using hr
    · cases hb
      exact hkept.placeOk (hplace a ha)
  | form => exact (State.stackOk_iff _).2 ⟨by simpa [State.formRecord] using hlen, fun a ha => by cases ha; rfl⟩
  | start => exact (State.stackOk_iff _).2 ⟨by simpa [State.formRecord] using hlen, fun a ha => by cases ha; rfl⟩
  | _ => exact hs

theorem State.powerOnValues_stack (s : State) (pin : Bool) : (s.powerOnValues pin).stackOk := by
  change State.reset.stackOk
  decide

/-- Settles O55: a residual is pushed onto free room or onto the place its record reserved. -/
theorem stackInvariantIsKept : Obligations.StackInvariantIsKept :=
  fun s t hs hstep => step_keeps State.powerOnValues_stack (fun _ _ h => h)
    (fun _ _ _ h => h.keeps_stack) s t hs hstep

/-! ### The record and the link (R25 to R27, R164) -/

/-- While the link stays, a station that leaves one state for another, neither OFFLINE, keeps its record
and link together if the record fits the new state. -/
theorem State.recordInv_of_station {s t : State} (hs : s.recordInv) (hlink : t.link = s.link)
    (hloader : t.loader = s.loader) (hold : s.seq.station ≠ .offline)
    (hnew : t.seq.station ≠ .offline) (hrecord : t.seq.active.isSome = t.seq.station.working) :
    t.recordInv := by
  obtain ⟨-, hoffline, hloaded⟩ := hs
  refine ⟨hrecord, ?_, ?_⟩
  · rw [hlink]
    exact ⟨fun e => absurd e hnew, fun e => absurd (hoffline.2 e) hold⟩
  · rw [hlink, hloader]
    exact hloaded

theorem Change.keeps_record {P : Permit → Prop} {s t : State} (h : Change P s t)
    (hs : s.recordInv) : t.recordInv := by
  have hinv := hs
  obtain ⟨hrecord, hlink, hloaded⟩ := hs
  have hrec : s.seq.active.isSome = s.seq.station.working := hrecord
  have hoff : s.seq.station = .offline ↔ (s.link.state = .offline ∨ s.link.state = .listening) := hlink
  have honline : s.seq.active.isSome = true → s.seq.station ≠ .offline := fun ha e => by
    simp [ha, e, Station.working] at hrec
  have hidle : s.station = .idle ∨ s.station = .held → s.seq.station ≠ .offline ∧
      s.seq.active.isSome = false := by
    rintro (e | e) <;> rw [hrec, show s.seq.station = _ from e] <;> decide
  have harmed : s.station = .armed → s.seq.station ≠ .offline ∧ s.seq.active.isSome = false := by
    intro e; rw [hrec, show s.seq.station = _ from e]; decide
  cases h with
  | loader l hload => exact ⟨hrecord, hlink, fun h => hload.trans (hloaded h)⟩
  | failLoad hl => exact ⟨hrecord, hlink, fun hne => by have := hloaded hne; simp [hl] at this⟩
  | useRecord c address levels hl =>
    have hlinkOff : s.link.state = .offline := by
      by_contra hne
      have := hloaded hne
      simp [hl] at this
    rw [s.useRecord_eq]
    exact ⟨hrecord, ⟨fun _ => .inr rfl, fun _ => hoff.2 (.inl hlinkOff)⟩, fun _ => rfl⟩
  | link l hl =>
    have hst : l.state = s.link.state := hl.state
    refine ⟨hrecord, ?_, ?_⟩
    · change s.seq.station = .offline ↔ (l.state = .offline ∨ l.state = .listening)
      rwa [hst]
    · change l.state ≠ .offline → _
      rwa [hst]
  | join l hl hkept =>
    have hst : l.state = .joined := hkept.state
    refine ⟨?_, ?_, fun _ => hloaded (by simp [hl])⟩
    · change s.seq.active.isSome = Station.working .idle
      rw [hrec, hoff.2 (.inr hl)]; rfl
    · change Station.idle = .offline ↔ (l.state = .offline ∨ l.state = .listening)
      simp [hst]
  | silence l hl hkept =>
    have hst : l.state = .silent := hkept.state
    refine ⟨hrecord, ?_, fun _ => hloaded (by simp [hl])⟩
    change s.seq.station = .offline ↔ (l.state = .offline ∨ l.state = .listening)
    rw [hoff, hl, hst]; simp
  | endEpisode _ hf =>
    have hstation : s.seq.station = .faulted := hf
    refine State.recordInv_of_station hinv rfl rfl (by simp [hstation]) (by simp) ?_
    change s.seq.active.isSome = Station.working .idle
    rw [hrec, hstation]; rfl
  | reset _ hj =>
    rw [s.resetWork_eq]
    refine ⟨rfl, ?_, hloaded⟩
    change Station.idle = .offline ↔ (s.link.state = .offline ∨ s.link.state = .listening)
    simp [hj]
  | seq q hstation hactive =>
    refine ⟨?_, ?_, hloaded⟩
    · change q.active.isSome = q.station.working
      rwa [hactive, hstation]
    · change q.station = .offline ↔ _
      rwa [hstation]
  | endRecord r =>
    cases ha : s.seq.active with
    | none => rwa [s.endRecord_none r ha]
    | some a =>
      rw [s.endRecord_some r a ha]
      refine State.recordInv_of_station hinv rfl rfl (honline (by simp [ha])) ?_ ?_
      all_goals cases r <;> simp [Sequencer.ended, Result.station, Station.working]
  | pushResidual r a ha =>
    rw [s.pushResidual_eq]
    exact State.recordInv_of_station hinv rfl rfl (honline (by simp [ha])) (by simp) rfl
  | take src => cases src <;> exact ⟨hrecord, hlink, hloaded⟩
  | active a a' ha =>
    refine ⟨?_, hlink, hloaded⟩
    change (some a').isSome = s.seq.station.working
    rw [← hrec, ha]; rfl
  | quiet x hx hnew =>
    obtain ⟨hold, hnone⟩ := hidle hx
    refine State.recordInv_of_station hinv rfl rfl hold ?_ ?_
    all_goals rcases hnew with rfl | rfl | ⟨rfl, -⟩ <;> simp [Station.working, hnone]
  | disarm x hx hnew =>
    obtain ⟨hold, hnone⟩ := harmed hx
    refine State.recordInv_of_station hinv rfl rfl hold ?_ ?_
    all_goals rcases hnew with rfl | ⟨rfl, -⟩ <;> simp [Station.working, hnone]
  | work x ha hnew =>
    refine State.recordInv_of_station hinv rfl rfl (honline ha) ?_ ?_
    all_goals rcases hnew with rfl | rfl <;> simp [Station.working, ha]
  | arm src w b hx =>
    obtain ⟨hold, hnone⟩ := hidle hx
    exact State.recordInv_of_station hinv rfl rfl hold (by simp) hnone
  | form w hx =>
    exact State.recordInv_of_station hinv rfl rfl (hidle hx).1 (by simp [State.formRecord]) rfl
  | start w b hx =>
    exact State.recordInv_of_station hinv rfl rfl (harmed hx).1 (by simp [State.formRecord]) rfl
  | _ => exact ⟨hrecord, hlink, hloaded⟩

theorem State.powerOnValues_record (s : State) (pin : Bool) : (s.powerOnValues pin).recordInv := by
  change State.reset.recordInv
  decide

end Sys2Proof.Machine

/-! ## Proofs: the barrier record and the Fault Log fit the station at every step -/

namespace Sys2Proof.Machine

/-! ### The queue (R9) -/

theorem insertsFirst_eq (es : List QueueEntry) : insertsFirst es = true ↔
    ∀ e es', es = e :: es' → insertsFirst es' = true ∧
      (e.insert = false → ∀ x ∈ es', x.insert = false) := by
  cases es with
  | nil => simp [insertsFirst]
  | cons e es =>
    have hrest : es.all (fun x => !x.insert) = true → insertsFirst es = true := by
      induction es with
      | nil => simp [insertsFirst]
      | cons x xs _ => simp +contextual [insertsFirst]
    cases hi : e.insert <;> simp_all [insertsFirst]

theorem insertsFirst_cons (e : QueueEntry) (es : List QueueEntry) :
    insertsFirst (e :: es) = true ↔
      insertsFirst es = true ∧ (e.insert = false → ∀ x ∈ es, x.insert = false) := by
  rw [insertsFirst_eq]
  exact ⟨fun h => h e es rfl, fun h _ _ heq => by cases heq; exact h⟩

/-- The order of INSERT entries is read from the INSERT flags alone. -/
theorem insertsFirst_of_flags {es es' : List QueueEntry}
    (h : es'.map QueueEntry.insert = es.map QueueEntry.insert) : insertsFirst es' = insertsFirst es := by
  induction es generalizing es' with
  | nil => simp_all [insertsFirst]
  | cons e es ih =>
    cases es' with
    | nil => simp at h
    | cons e' es' =>
      simp only [List.map_cons, List.cons.injEq] at h
      obtain ⟨he, hes⟩ := h
      have hall : ∀ l : List QueueEntry, l.all (fun x => !x.insert) = (l.map QueueEntry.insert).all (!·) :=
        fun l => by simp [List.all_map, Function.comp_def]
      simp only [insertsFirst, he, ih hes, hall, hes]

theorem SameEntries.insert {es es' : List QueueEntry} (h : SameEntries es es') :
    es'.map QueueEntry.insert = es.map QueueEntry.insert := by
  simpa [Function.comp_def, QueueEntry.unmarked] using congrArg (List.map QueueEntry.insert) h

theorem SameEntries.length {es es' : List QueueEntry} (h : SameEntries es es') :
    es'.length = es.length := by simpa using congrArg List.length h

theorem placeEntry_length (e : QueueEntry) (es : List QueueEntry) :
    (placeEntry e es).length = es.length + 1 := by
  induction es with
  | nil => rfl
  | cons x xs ih => unfold placeEntry; split <;> simp [ih]

theorem mem_placeEntry {e y : QueueEntry} {es : List QueueEntry} :
    y ∈ placeEntry e es ↔ y = e ∨ y ∈ es := by
  induction es with
  | nil => simp [placeEntry]
  | cons x xs ih =>
    unfold placeEntry
    split
    · simp
    · simp only [List.mem_cons, ih]; tauto

theorem insertsFirst_placeEntry (e : QueueEntry) (es : List QueueEntry) (h : insertsFirst es = true) :
    insertsFirst (placeEntry e es) = true := by
  induction es with
  | nil => simp [placeEntry, insertsFirst]
  | cons x xs ih =>
    obtain ⟨htail, hflag⟩ := (insertsFirst_cons x xs).1 h
    unfold placeEntry
    split
    case isTrue hc =>
      have hi : e.insert = true := by simp_all
      exact (insertsFirst_cons _ _).2 ⟨h, by simp [hi]⟩
    case isFalse hc =>
      refine (insertsFirst_cons _ _).2 ⟨ih htail, fun hx y hy => ?_⟩
      rcases mem_placeEntry.1 hy with rfl | hy
      · simpa [hx] using hc
      · exact hflag hx y hy

theorem insertsFirst_filter (p : QueueEntry → Bool) (es : List QueueEntry)
    (h : insertsFirst es = true) : insertsFirst (es.filter p) = true := by
  induction es with
  | nil => exact h
  | cons x xs ih =>
    obtain ⟨htail, hflag⟩ := (insertsFirst_cons x xs).1 h
    rw [List.filter_cons]
    split
    · exact (insertsFirst_cons _ _).2 ⟨ih htail, fun hx y hy => hflag hx y (List.mem_of_mem_filter hy)⟩
    · exact ih htail

theorem insertsFirst_keepHead (keep : Bool) (p : QueueEntry → Bool) (es : List QueueEntry)
    (h : insertsFirst es = true) : insertsFirst (keepHead keep p es) = true := by
  cases es with
  | nil => exact h
  | cons x xs =>
    obtain ⟨htail, hflag⟩ := (insertsFirst_cons x xs).1 h
    cases keep with
    | true =>
      exact (insertsFirst_cons _ _).2
        ⟨insertsFirst_filter p xs htail, fun hx y hy => hflag hx y (List.mem_of_mem_filter hy)⟩
    | false => exact insertsFirst_filter p _ h

theorem insertsFirst_tail (es : List QueueEntry) (h : insertsFirst es = true) :
    insertsFirst es.tail = true := by
  cases es with
  | nil => exact h
  | cons x xs => exact ((insertsFirst_cons x xs).1 h).1

theorem Change.keeps_queue {P : Permit → Prop} {s t : State} (h : Change P s t) (hs : s.queueOk) :
    t.queueOk := by
  obtain ⟨hlen, hfirst⟩ := hs
  cases h with
  | reset => rw [s.resetWork_eq]; exact ⟨Nat.zero_le _, rfl⟩
  | endRecord r =>
    cases ha : s.seq.active with
    | none => rw [s.endRecord_none r ha]; exact ⟨hlen, hfirst⟩
    | some a => rw [s.endRecord_some r a ha]; exact ⟨hlen, hfirst⟩
  | pushResidual => rw [s.pushResidual_eq]; exact ⟨hlen, hfirst⟩
  | useRecord => rw [s.useRecord_eq]; exact ⟨hlen, hfirst⟩
  | queue q hq => exact ⟨hq.length ▸ hlen, (insertsFirst_of_flags hq.insert).trans hfirst⟩
  | place e hroom =>
    exact ⟨(placeEntry_length e _).symm ▸ hroom, insertsFirst_placeEntry e _ hfirst⟩
  | flush scope =>
    exact ⟨(keepHead_length_le _ _ _).trans hlen, insertsFirst_keepHead _ _ _ hfirst⟩
  | take src =>
    cases src with
    | queueHead => exact ⟨by simpa [State.takeCandidate] using by omega, insertsFirst_tail _ hfirst⟩
    | stackTop => exact ⟨hlen, hfirst⟩
  | _ => exact ⟨hlen, hfirst⟩

/-! ### The armed candidate (R31, R90) -/

/-- The candidate has a barrier block and the group of a barrier record. -/
def State.candidateFits (s : State) (b : BarrierRec) : Prop :=
  ∃ src w, s.candidate = some (src, w) ∧ w.barrier.isSome = true ∧ w.group = b.group

theorem State.armedOk_iff (s : State) : s.armedOk = true ↔
    (s.station = .armed → ∃ b, s.barrier = some b ∧ s.candidateFits b) := by
  unfold State.armedOk State.candidateFits
  by_cases h : s.station = .armed
  · simp only [h]
    cases hc : s.candidate with
    | none => simp
    | some c =>
      obtain ⟨src, w⟩ := c
      cases hb : s.barrier <;> simp
  · simp [h]

/-- A queue head that is an INSERT, or stands over an empty stack, is the candidate. -/
theorem State.candidate_queueHead (s : State) (e : QueueEntry) (es : List QueueEntry)
    (he : s.queue.entries = e :: es) (h : e.insert = true ∨ s.stack.residuals = []) :
    s.candidate = some (.queueHead, .segment e) := by
  unfold State.candidate
  cases hr : s.stack.residuals with
  | nil => rw [he]
  | cons r rs =>
    rw [he]
    simp only [hr, reduceCtorEq, or_false] at h
    simp [h]

/-- The stack top is the candidate over a queue whose head is no INSERT. -/
theorem State.candidate_stackTop (s : State) (r : Residual) (rs : List Residual)
    (hr : s.stack.residuals = r :: rs) (h : ∀ e es, s.queue.entries = e :: es → e.insert = false) :
    s.candidate = some (.stackTop, .residual r) := by
  unfold State.candidate
  cases he : s.queue.entries with
  | nil => rw [hr]
  | cons e es => rw [hr]; simp [h e es he]

/-- Where a candidate stands, and what is around it. -/
theorem State.candidate_cases (s : State) (src : Source) (w : Work)
    (h : s.candidate = some (src, w)) :
    (src = .queueHead ∧ ∃ e es, w = .segment e ∧ s.queue.entries = e :: es ∧
      (e.insert = true ∨ s.stack.residuals = [])) ∨
    (src = .stackTop ∧ ∃ r rs, w = .residual r ∧ s.stack.residuals = r :: rs ∧
      ∀ e es, s.queue.entries = e :: es → e.insert = false) := by
  unfold State.candidate at h
  split at h
  · cases h
  · rename_i r rs he hr
    cases h
    exact .inr ⟨rfl, r, rs, rfl, hr, fun e es h => by rw [he] at h; cases h⟩
  · rename_i e es he hr
    cases h
    exact .inl ⟨rfl, e, es, rfl, he, .inr hr⟩
  · rename_i e es r rs he hr
    split at h
    · cases h; exact .inl ⟨rfl, e, es, rfl, he, .inl ‹_›⟩
    · cases h
      exact .inr ⟨rfl, r, rs, rfl, hr, fun e' es' h' => by
        rw [he] at h'; cases h'; exact Bool.eq_false_iff.2 ‹_›⟩

/-- A queue that differs in its BOUND marks at most offers a candidate of the same barrier and group. -/
theorem State.candidateFits_of_sameEntries {s t : State} {b : BarrierRec} (h : s.candidateFits b)
    (hq : SameEntries s.queue.entries t.queue.entries) (hr : t.stack.residuals = s.stack.residuals) :
    t.candidateFits b := by
  obtain ⟨src, w, hc, hbarrier, hgroup⟩ := h
  rcases s.candidate_cases src w hc with ⟨-, e, es, rfl, he, hhead⟩ | ⟨-, r, rs, rfl, htop, hhead⟩
  · rw [SameEntries, he] at hq
    obtain ⟨e', es', he', hmark, -⟩ := List.map_eq_cons_iff.1 hq
    have hfields : e'.insert = e.insert ∧ e'.barrier = e.barrier ∧ e'.group = e.group := by
      simp only [QueueEntry.unmarked, QueueEntry.mk.injEq] at hmark
      tauto
    obtain ⟨hi, hb, hg⟩ := hfields
    exact ⟨_, _, t.candidate_queueHead e' es' he' (by rwa [hi, hr]), (congrArg Option.isSome hb).trans hbarrier,
      hg.trans hgroup⟩
  · refine ⟨_, _, t.candidate_stackTop r rs (hr.trans htop) fun e' es' he' => ?_, hbarrier, hgroup⟩
    have hflags := hq.insert
    rw [he', List.map_cons] at hflags
    obtain ⟨e, es, he, hi, -⟩ := List.map_eq_cons_iff.1 hflags.symm
    rw [← hi]
    exact hhead e es he

/-- A FLUSH of an ARMED station leaves its candidate (R11, R21). -/
theorem State.candidateFits_flush {s : State} {b : BarrierRec} (scope : FlushScope)
    (harmed : s.station = .armed) (hfirst : insertsFirst s.queue.entries = true)
    (h : s.candidateFits b) :
    State.candidateFits ((s.setQueue { s.queue with entries := s.flushedEntries scope }).setStack
      { s.stack with residuals := s.flushedResiduals scope,
                     overflow := s.stack.overflow && !scope.clearsOverflow }) b := by
  obtain ⟨src, w, hc, hbarrier, hgroup⟩ := h
  have hat : s.armedAt = some src := by simp [State.armedAt, harmed, hc]
  rcases s.candidate_cases src w hc with ⟨rfl, e, es, rfl, he, hhead⟩ | ⟨rfl, r, rs, rfl, htop, hhead⟩
  · refine ⟨.queueHead, .segment e, State.candidate_queueHead _ e
      (es.filter fun e => e.bound || !scope.takesEntry e.group) ?_ (hhead.imp_right fun hnil => ?_),
      hbarrier, hgroup⟩
    · simp [State.flushedEntries, hat, he, keepHead]
    · simp [State.flushedResiduals, hnil, keepHead]
  · refine ⟨.stackTop, .residual r, State.candidate_stackTop _ r
      (rs.filter fun r => !scope.takesResidual r.group) ?_ (fun e es he => ?_), hbarrier, hgroup⟩
    · simp [State.flushedResiduals, hat, htop, keepHead]
    · have hmem : e ∈ s.queue.entries := by
        have hin : e ∈ s.flushedEntries scope :=
          (show s.flushedEntries scope = e :: es from he) ▸ List.mem_cons_self
        revert hin
        unfold State.flushedEntries
        cases hq : s.queue.entries with
        | nil => simp [keepHead]
        | cons x xs => simp [keepHead, hat]; tauto
      cases hq : s.queue.entries with
      | nil => simp [hq] at hmem
      | cons x xs =>
        rw [hq] at hmem hfirst
        rcases List.mem_cons.1 hmem with rfl | hmem
        · exact hhead _ xs hq
        · exact ((insertsFirst_cons x xs).1 hfirst).2 (hhead x xs hq) e hmem

/-- An entry that is no INSERT is placed behind an armed candidate. -/
theorem State.candidateFits_place {s t : State} {b : BarrierRec} (e : QueueEntry)
    (he : e.insert = false) (hq : t.queue.entries = placeEntry e s.queue.entries)
    (hr : t.stack = s.stack) (h : s.candidateFits b) : t.candidateFits b := by
  obtain ⟨src, w, hc, hbarrier, hgroup⟩ := h
  have hplace : ∀ x xs, placeEntry e (x :: xs) = x :: placeEntry e xs := fun x xs => by
    simp [placeEntry, he]
  rcases s.candidate_cases src w hc with ⟨-, x, xs, rfl, hx, hhead⟩ | ⟨-, r, rs, rfl, htop, hhead⟩
  · exact ⟨_, _, t.candidate_queueHead x (placeEntry e xs) (by rw [hq, hx, hplace]) (by rwa [hr]),
      hbarrier, hgroup⟩
  · refine ⟨_, _, t.candidate_stackTop r rs (by rwa [hr]) (fun y ys hy => ?_), hbarrier, hgroup⟩
    rw [hq] at hy
    cases hx : s.queue.entries with
    | nil => rw [hx] at hy; cases hy; exact he
    | cons x xs => rw [hx, hplace] at hy; cases hy; exact hhead _ _ hx

/-! ### The barrier record (R89 to R93) -/

/-- The barrier record while the station is ARMED fits the candidate, and otherwise is STARTED and goes
with an active record. -/
def State.barrierFits (s : State) : Prop :=
  (s.station = .armed → ∃ b, s.barrier = some b ∧ b.phase = .armed ∧ s.candidateFits b) ∧
  (∀ b, s.barrier = some b → b.phase = .armed → s.station = .armed) ∧
  (∀ b, s.barrier = some b → b.phase = .started → s.seq.active.isSome = true)

theorem State.barrierFits_iff (s : State) : s.barrierFits ↔ s.barrierOk ∧ s.armedOk = true := by
  rw [s.armedOk_iff]
  unfold State.barrierFits State.barrierOk State.barrierArmed State.barrierStarted
  cases hb : s.barrier with
  | none => by_cases hs : s.station = .armed <;> simp [hs]
  | some b => by_cases hs : s.station = .armed <;> cases hp : b.phase <;> simp [hs, hp]

/-- A state without a barrier record that is not ARMED. -/
theorem State.barrierFits_of_none {s : State} (hb : s.barrier = none) (hs : s.station ≠ .armed) :
    s.barrierFits :=
  ⟨fun h => absurd h hs, fun b h => by simp [hb] at h, fun b h => by simp [hb] at h⟩

/-- A station that is not ARMED goes over to another state that is not, with its barrier record. -/
theorem State.barrierFits_of_notArmed {s t : State} (hs : s.barrierFits) (hold : s.station ≠ .armed)
    (hnew : t.station ≠ .armed) (hb : t.barrier = s.barrier)
    (ha : s.seq.active.isSome = true → t.seq.active.isSome = true) : t.barrierFits := by
  obtain ⟨-, harmed, hstarted⟩ := hs
  refine ⟨fun h => absurd h hnew, fun b hb' hp => ?_, fun b hb' hp => ha (hstarted b (hb ▸ hb') hp)⟩
  exact absurd (harmed b (hb ▸ hb') hp) hold

/-- What leaves station, barrier record and record, and the fit of the candidate, keeps the fit. -/
theorem State.barrierFits_of_same {s t : State} (hs : s.barrierFits) (hstation : t.station = s.station)
    (hb : t.barrier = s.barrier) (ha : t.seq.active.isSome = s.seq.active.isSome)
    (hc : s.station = .armed → ∀ b, s.candidateFits b → t.candidateFits b) : t.barrierFits := by
  obtain ⟨hfits, harmed, hstarted⟩ := hs
  refine ⟨fun h => ?_, fun b hb' hp => ?_, fun b hb' hp => ?_⟩
  · obtain ⟨b, hb', hp, hfit⟩ := hfits (hstation ▸ h)
    exact ⟨b, hb.trans hb', hp, hc (hstation ▸ h) b hfit⟩
  · exact hstation.trans (harmed b (hb ▸ hb') hp)
  · exact ha.trans (hstarted b (hb ▸ hb') hp)

theorem Change.keeps_barrier {P : Permit → Prop} {s t : State} (h : Change P s t)
    (hrecord : s.recordInv) (hqueue : s.queueOk) (hs : s.barrierFits) : t.barrierFits := by
  obtain ⟨hworking, hlink, -⟩ := hrecord
  have hrec : s.seq.active.isSome = s.seq.station.working := hworking
  have hactive : s.seq.active.isSome = true → s.station ≠ .armed := fun ha e => by
    simp [ha, show s.seq.station = _ from e, Station.working] at hrec
  have hidle : s.station = .idle ∨ s.station = .held → s.station ≠ .armed := by
    rintro (e | e) <;> simp [e]
  cases h with
  | useRecord => rw [s.useRecord_eq]; exact hs
  | join l hl =>
    have hoff : s.station = .offline := hlink.2 (.inr hl)
    exact State.barrierFits_of_notArmed hs (by simp [hoff]) (by simp) rfl id
  | endEpisode _ hf => exact State.barrierFits_of_notArmed hs (by simp [hf]) (by simp) rfl id
  | reset => rw [s.resetWork_eq]; exact State.barrierFits_of_none rfl nofun
  | seq q hstation ha =>
    exact State.barrierFits_of_same hs hstation rfl (congrArg Option.isSome ha) fun _ _ h => h
  | endRecord r =>
    cases ha : s.seq.active with
    | none => rwa [s.endRecord_none r ha]
    | some a =>
      rw [s.endRecord_some r a ha]
      exact State.barrierFits_of_none rfl (show r.station ≠ .armed by cases r <;> decide)
  | pushResidual => rw [s.pushResidual_eq]; exact State.barrierFits_of_none rfl nofun
  | overflow x hr =>
    refine State.barrierFits_of_same hs rfl rfl rfl fun _ b h => ?_
    exact State.candidateFits_of_sameEntries h rfl hr
  | queue q hq =>
    refine State.barrierFits_of_same hs rfl rfl rfl fun _ b h => ?_
    exact State.candidateFits_of_sameEntries h hq rfl
  | place e _ hinsert =>
    refine State.barrierFits_of_same hs rfl rfl rfl fun harmed b h => ?_
    exact State.candidateFits_place e (hinsert harmed) rfl rfl h
  | flush scope =>
    exact State.barrierFits_of_same hs rfl rfl rfl fun harmed b h =>
      State.candidateFits_flush scope harmed hqueue.2 h
  | take src hnot =>
    cases src <;> exact State.barrierFits_of_notArmed hs hnot hnot rfl id
  | active a a' ha =>
    have hsome : s.seq.active.isSome = true := by simp [ha]
    exact State.barrierFits_of_notArmed hs (hactive hsome) (hactive hsome) rfl fun _ => rfl
  | quiet x hx hnew =>
    refine State.barrierFits_of_notArmed hs (hidle hx) ?_ rfl id
    rcases hnew with rfl | rfl | ⟨rfl, -⟩ <;> simp
  | disarm x _ hnew =>
    refine State.barrierFits_of_none rfl ?_
    rcases hnew with rfl | ⟨rfl, -⟩ <;> simp
  | work x ha hnew =>
    refine State.barrierFits_of_notArmed hs (hactive ha) ?_ rfl id
    rcases hnew with rfl | rfl <;> simp
  | arm src w b _ hc hw hg hb =>
    refine ⟨fun _ => ⟨b, rfl, hb, src, w, hc, hw, hg⟩, fun _ _ _ => rfl, fun b' hb' hp => ?_⟩
    cases hb'
    simp [hb] at hp
  | barrier b b' hb hg hp =>
    obtain ⟨hfits, harmed, hstarted⟩ := hs
    refine ⟨fun hst => ?_, fun b'' hb'' hp'' => ?_, fun b'' hb'' hp'' => ?_⟩
    · obtain ⟨b₀, hb₀, hp₀, src, w, hc, hw, hg₀⟩ := hfits hst
      cases hb.symm.trans hb₀
      exact ⟨b', rfl, hp.trans hp₀, src, w, hc, hw, hg₀.trans hg.symm⟩
    · cases hb''
      exact harmed b hb (hp.symm.trans hp'')
    · cases hb''
      exact hstarted b hb (hp.symm.trans hp'')
  | form w hx => exact State.barrierFits_of_notArmed hs (hidle hx) nofun rfl fun _ => rfl
  | start w b => exact ⟨nofun, fun b' hb' hp => (by cases hb'; cases hp), fun _ _ _ => rfl⟩
  | _ => exact hs

theorem State.powerOnValues_barrier (s : State) (pin : Bool) : (s.powerOnValues pin).barrierInv := by
  change State.reset.barrierInv
  decide

/-- Settles O58: each elementary change that reaches the barrier record, the candidate or the station
keeps the three together; the queue part says that no FLUSH uncovers an INSERT over an armed residual. -/
theorem barrierInvariantIsKept : Obligations.BarrierInvariantIsKept := by
  refine fun s t hs hstep => step_keeps State.powerOnValues_barrier (fun _ _ h => h) ?_ s t hs hstep
  rintro P s t hchange ⟨hrecord, hqueue, hbarrier, harmed⟩
  exact ⟨hchange.keeps_record hrecord, hchange.keeps_queue hqueue, (State.barrierFits_iff t).1
    (hchange.keeps_barrier hrecord hqueue (s.barrierFits_iff.2 ⟨hbarrier, harmed⟩))⟩

/-! ### The Fault Log (R182, R183) -/

theorem FaultLog.record_ok (f : FaultLog) (e : FaultEntry) (h : f.ok) : (f.record e).ok := by
  obtain ⟨-, -, hcount, hkinds⟩ := h
  unfold FaultLog.record
  split
  case h_1 => exact ⟨rfl, rfl, by simp, by simp⟩
  case h_2 e₀ hfirst =>
    have hcount0 : f.count ≠ 0 := fun h0 => by simp [hfirst] at hcount; exact hcount h0
    refine ⟨by simp [hfirst], by simp [hfirst], ?_, ?_⟩
    · simp only [hfirst, reduceCtorEq, false_iff, satSucc]
      split <;> omega
    · simp only [hfirst, reduceCtorEq, false_iff, addKind]
      split
      · intro h0; simp [hfirst] at hkinds; exact hkinds h0
      · simp

theorem FaultLog.reset_ok : FaultLog.reset.ok := by decide

theorem State.faultOk_iff (s : State) : s.faultOk ↔ s.faults.ok ∧
    (s.seq.station = .faulted → s.faults.first.isSome = true) ∧
    ∀ a, s.seq.active = some a → a.faultEnded = true → s.faults.first.isSome = true := by
  unfold State.faultOk State.faultEnding
  cases h : s.seq.active <;> simp [State.station, or_imp]

/-- A station without a record that is not FAULTED needs no episode. -/
theorem State.faultOk_of_noRecord {s : State} (hok : s.faults.ok) (hs : s.seq.station ≠ .faulted)
    (ha : s.seq.active = none) : s.faultOk :=
  s.faultOk_iff.2 ⟨hok, fun h => absurd h hs, fun a h => by simp [ha] at h⟩

theorem Change.keeps_faults {P : Permit → Prop} {s t : State} (h : Change P s t)
    (hrecord : s.recordInv) (hs : s.faultOk) : t.faultOk := by
  have hworking : s.seq.active.isSome = s.seq.station.working := hrecord.1
  obtain ⟨hok, hfaulted, hending⟩ := s.faultOk_iff.1 hs
  have hnone : s.seq.station.working = false → s.seq.active = none := fun h => by
    simpa [h] using hworking
  cases h with
  | useRecord => rw [s.useRecord_eq]; exact hs
  | join l hl =>
    have hoff : s.seq.station = .offline := hrecord.2.1.2 (.inr hl)
    exact State.faultOk_of_noRecord hok (by simp) (hnone (by rw [hoff]; rfl))
  | logFault k tag =>
    have hfirst : (s.faults.record ⟨k, s.link.cycle, tag, s.gen.position⟩).first.isSome = true :=
      congrArg Option.isSome (s.faults.record_spec _).2.2
    exact (State.faultOk_iff _).2 ⟨s.faults.record_ok _ hok, fun _ => hfirst, fun _ _ _ => hfirst⟩
  | endEpisode _ hf =>
    refine State.faultOk_of_noRecord FaultLog.reset_ok (by simp) (hnone ?_)
    rw [show s.seq.station = _ from hf]; rfl
  | reset =>
    rw [s.resetWork_eq]
    exact State.faultOk_of_noRecord FaultLog.reset_ok (by simp) rfl
  | seq q hstation ha =>
    refine (State.faultOk_iff _).2 ⟨hok, fun h => hfaulted (hstation.symm.trans h), fun a h => ?_⟩
    exact hending a (ha.symm.trans h)
  | endRecord r hr =>
    cases ha : s.seq.active with
    | none => rwa [s.endRecord_none r ha]
    | some a =>
      rw [s.endRecord_some r a ha]
      refine (State.faultOk_iff _).2 ⟨hok, fun h => ?_,
        fun b hb => absurd hb (by simp [Sequencer.ended])⟩
      have hr' : r = .faulted := by cases r <;> simp_all [Sequencer.ended, Result.station]
      exact (hr hr' a ha).elim (hending a ha) id
  | pushResidual => rw [s.pushResidual_eq]; exact State.faultOk_of_noRecord hok (by simp) rfl
  | take src => cases src <;> exact hs
  | active a a' ha hkept =>
    refine (State.faultOk_iff _).2 ⟨hok, hfaulted, fun b hb he => ?_⟩
    cases hb
    exact (hkept.faultEnded he).elim (hending a ha) id
  | quiet x hx hnew =>
    refine (State.faultOk_iff _).2 ⟨hok, fun h => ?_, hending⟩
    rcases hnew with rfl | rfl | ⟨-, hf⟩
    · cases h
    · cases h
    · exact hf
  | disarm x hx hnew =>
    refine (State.faultOk_iff _).2 ⟨hok, fun h => ?_, hending⟩
    rcases hnew with rfl | ⟨-, hf⟩
    · cases h
    · exact hf
  | work x ha hnew =>
    refine (State.faultOk_iff _).2 ⟨hok, fun h => ?_, hending⟩
    rcases hnew with rfl | rfl <;> cases h
  | arm => exact (State.faultOk_iff _).2 ⟨hok, nofun, hending⟩
  | form => exact (State.faultOk_iff _).2 ⟨hok, nofun, fun a ha he => by cases ha; cases he⟩
  | start => exact (State.faultOk_iff _).2 ⟨hok, nofun, fun a ha he => by cases ha; cases he⟩
  | _ => exact hs

theorem State.powerOnValues_faults (s : State) (pin : Bool) : (s.powerOnValues pin).faultInv := by
  change State.reset.faultInv
  decide

/-- Settles O59: the fault-ended mark and the state FAULTED come only with a fault that has been logged. -/
theorem faultInvariantIsKept : Obligations.FaultInvariantIsKept := by
  refine fun s t hs hstep => step_keeps State.powerOnValues_faults (fun _ _ h => h) ?_ s t hs hstep
  rintro P s t hchange ⟨hrecord, hfaults⟩
  exact ⟨hchange.keeps_record hrecord, hchange.keeps_faults hrecord hfaults⟩

end Sys2Proof.Machine

/-! ## Proofs: what only some commands change -/

namespace Sys2Proof.Machine

/-! ### Commands complete, and those that wait stay -/

theorem Change.keeps_pending {P : Permit → Prop} {s t : State} (h : Change P s t) :
    t.pending = s.pending := by
  cases h with
  | reset => rw [s.resetWork_eq]
  | useRecord => rw [s.useRecord_eq]
  | pushResidual => rw [s.pushResidual_eq]
  | endRecord r =>
    cases ha : s.seq.active with
    | none => rw [s.endRecord_none r ha]
    | some a => rw [s.endRecord_some r a ha]
  | take src => cases src <;> rfl
  | _ => rfl

/-- Settles O2: POWER_ON and PIN_RESET keep the waiting commands by name, and no elementary change of
another command reaches them. -/
theorem everyCommandCompletes : Obligations.EveryCommandCompletes := by
  intro c s
  by_cases hpower : c = .powerOn
  · subst hpower; exact ⟨_, rfl, rfl⟩
  · by_cases hpin : c = .pinReset
    · subst hpin; exact ⟨_, rfl, rfl⟩
    · obtain ⟨t, ht, hchanges⟩ := exec_changes c s hpower hpin
      exact ⟨t, ht, hchanges.keeps (I := fun u => u.pending = s.pending)
        (fun _ _ h hu => h.keeps_pending.trans hu) rfl⟩

/-! ### The settings in use (R191, R193) -/

/-- The record in use, its settings and address. -/
def State.usesRecord (s : State) (c : Settings) (address : Nat) : Prop :=
  s.loader.load = .loaded ∧ s.loader.settings = c ∧ s.loader.address = address

theorem Change.keeps_settings {P : Permit → Prop} {s t : State} {c : Settings} {address : Nat}
    (h : Change P s t) (hs : s.usesRecord c address) : t.usesRecord c address := by
  have hnot : s.loader.load ≠ .loading := by rw [hs.1]; decide
  cases h with
  | loader l hload hset haddr =>
    obtain ⟨h1, h2, h3⟩ := hs
    exact ⟨hload.trans h1, hset.trans h2, haddr.trans h3⟩
  | failLoad hl => exact absurd hl hnot
  | useRecord c a levels hl => exact absurd hl hnot
  | reset => rwa [s.resetWork_eq]
  | pushResidual => rwa [s.pushResidual_eq]
  | endRecord r =>
    cases ha : s.seq.active with
    | none => rwa [s.endRecord_none r ha]
    | some a => rwa [s.endRecord_some r a ha]
  | take src => cases src <;> exact hs
  | _ => exact hs

/-- Settles O7: only a load under way writes the loader's record. -/
theorem settingsStayAfterTheLoad : Obligations.SettingsStayAfterTheLoad := by
  intro c s t hloaded hpower hpin hstep
  rcases exec_cases c s t hstep with ⟨he, -⟩ | ⟨-, -, hchanges⟩
  · exact (he.elim hpower hpin).elim
  · exact hchanges.keeps (I := fun u => u.usesRecord _ _) (fun _ _ h => h.keeps_settings)
      ⟨hloaded, rfl, rfl⟩

/-! ### A SILENT link (R164) -/

/-- The link is SILENT with a record in use, its last frame and mark as given. -/
def State.silentWith (s : State) (frame mark : Option (List Byte)) : Prop :=
  s.link.state = .silent ∧ s.loader.load = .loaded ∧ s.link.sending = frame ∧ s.link.markSent = mark

theorem Change.keeps_silence {P : Permit → Prop} {s t : State} {frame mark : Option (List Byte)}
    (h : Change P s t) (hs : s.silentWith frame mark) : t.silentWith frame mark := by
  obtain ⟨hsilent, hloaded, hframe, hmark⟩ := hs
  have hnot : s.loader.load ≠ .loading := by rw [hloaded]; decide
  cases h with
  | loader l hload => exact ⟨hsilent, hload.trans hloaded, hframe, hmark⟩
  | failLoad hl => exact absurd hl hnot
  | useRecord c a levels hl => exact absurd hl hnot
  | link l hl =>
    exact ⟨hl.state.trans hsilent, hloaded, (hl.sending hsilent).trans hframe,
      (hl.markSent hsilent).trans hmark⟩
  | join l hl => simp [hsilent] at hl
  | silence l hl => simp [hsilent] at hl
  | reset _ hl => simp [hsilent] at hl
  | pushResidual => rw [s.pushResidual_eq]; exact ⟨hsilent, hloaded, hframe, hmark⟩
  | endRecord r =>
    cases ha : s.seq.active with
    | none => rw [s.endRecord_none r ha]; exact ⟨hsilent, hloaded, hframe, hmark⟩
    | some a => rw [s.endRecord_some r a ha]; exact ⟨hsilent, hloaded, hframe, hmark⟩
  | take src => cases src <;> exact ⟨hsilent, hloaded, hframe, hmark⟩
  | _ => exact ⟨hsilent, hloaded, hframe, hmark⟩

/-- Settles O24: no elementary change brings a SILENT link back, and none lets it send. -/
theorem silentStationStaysSilent : Obligations.SilentStationStaysSilent := by
  intro c s t hsilent hloaded hpower hpin hstep
  rcases exec_cases c s t hstep with ⟨he, -⟩ | ⟨-, -, hchanges⟩
  · exact (he.elim hpower hpin).elim
  · obtain ⟨h1, -, h2, h3⟩ := hchanges.keeps (I := fun u => u.silentWith _ _)
      (fun _ _ h => h.keeps_silence) ⟨hsilent, hloaded, rfl, rfl⟩
    exact ⟨h1, h2, h3⟩

/-! ### A HALTED group (R110, R114, R122) -/

theorem Change.keeps_halt {P : Permit → Prop} {s t : State} {i : Nat} {x : GroupEntry}
    (h : Change P s t) (hp : ¬ P .hears) (hs : HoldsHalt s.groups i x) : HoldsHalt t.groups i x := by
  cases h with
  | groups gs _ hheld => exact hheld i x hs
  | hear gs hhears => exact absurd hhears hp
  | reset => rwa [s.resetWork_eq]
  | useRecord => rwa [s.useRecord_eq]
  | pushResidual => rwa [s.pushResidual_eq]
  | endRecord r =>
    cases ha : s.seq.active with
    | none => rwa [s.endRecord_none r ha]
    | some a => rwa [s.endRecord_some r a ha]
  | take src => cases src <;> exact hs
  | _ => exact hs

/-- A HALTED group is one of the table. -/
theorem State.group_in_table (s : State) (g : Nat) (h : (s.group g).condition = .halted) :
    1 ≤ g ∧ g ≤ s.groups.length := by
  unfold State.group at h
  split at h
  · cases h
  · refine ⟨by omega, ?_⟩
    by_contra hl
    rw [List.getD_eq_getElem?_getD, List.getElem?_eq_none (by omega)] at h
    cases h

/-- Settles O38: among the elementary changes only the hearing of a group state alters a HALTED entry,
and RELEASE, STATUS and frames alone hear one. -/
theorem haltedGroupStaysHalted : Obligations.HaltedGroupStaysHalted := by
  intro c s t g hhalted hpower hpin hrelease hstatus hframe hstep
  rcases exec_cases c s t hstep with ⟨he, -⟩ | ⟨-, -, hchanges⟩
  · exact (he.elim hpower hpin).elim
  · have hears : ¬ permits c s .hears := by
      rintro (⟨x, d, b, e⟩ | ⟨x, d, b, e⟩ | ⟨o, n, bs, e⟩)
      · exact hrelease x d b e
      · exact hstatus x d b e
      · exact hframe o n bs e
    obtain ⟨h1, hl⟩ := s.group_in_table g hhalted
    exact State.group_of_holdsHalt t g _ h1 (hchanges.keeps (I := fun u => HoldsHalt u.groups _ _)
      (fun _ _ h => h.keeps_halt hears) (s.holdsHalt_group g h1 hl hhalted))

/-! ### The first fault of an episode (R182 to R184) -/

theorem Change.keeps_first {P : Permit → Prop} {s t : State} {e : FaultEntry} (h : Change P s t)
    (hp : ¬ P .clears) (hs : s.faults.first = some e) : t.faults.first = some e := by
  cases h with
  | logFault k tag =>
    refine (s.faults.record_spec _).2.2.trans ?_
    rw [hs]; rfl
  | endEpisode hclears => exact absurd hclears hp
  | reset hclears => exact absurd hclears hp
  | useRecord => rwa [s.useRecord_eq]
  | pushResidual => rwa [s.pushResidual_eq]
  | endRecord r =>
    cases ha : s.seq.active with
    | none => rwa [s.endRecord_none r ha]
    | some a => rwa [s.endRecord_some r a ha]
  | take src => cases src <;> exact hs
  | _ => exact hs

/-- The record of a fault that begins an episode (R183). -/
theorem FaultLog.record_of_none (f : FaultLog) (e : FaultEntry) (h : f.first = none) :
    f.record e = ⟨some e.kind, some e, some e, 1, [e.kind]⟩ := by
  unfold FaultLog.record; rw [h]

/-- The record of a fault that continues an episode (R184). -/
theorem FaultLog.record_of_some (f : FaultLog) (e : FaultEntry) (h : f.first ≠ none) :
    f.record e = { f with
      current := some e.kind, last := some e
      count := if f.count < 255 then f.count + 1 else f.count
      kinds := if e.kind ∈ f.kinds then f.kinds else f.kinds ++ [e.kind] } := by
  obtain ⟨x, hx⟩ := Option.ne_none_iff_exists'.1 h
  simp [FaultLog.record, hx, satSucc, addKind]

/-- Settles O42: a record continues or begins an episode by the first fault, and only the commands that
empty the log alter one that stands. -/
theorem firstFaultIsKept : Obligations.FirstFaultIsKept := by
  refine ⟨fun f e => ⟨f.record_of_none e, f.record_of_some e⟩, ?_⟩
  intro c s t e hfirst hpower hpin hclear hreset hframe hstep
  rcases exec_cases c s t hstep with ⟨he, -⟩ | ⟨-, -, hchanges⟩
  · exact (he.elim hpower hpin).elim
  · have clears : ¬ permits c s .clears := by
      rintro (⟨x, d, b, h⟩ | ⟨x, d, b, h⟩ | ⟨o, n, bs, h⟩)
      · exact hclear x d b h
      · exact hreset x d b h
      · exact hframe o n bs h
    exact hchanges.keeps (I := fun u => u.faults.first = some e) (fun _ _ h => h.keeps_first clears)
      hfirst

/-! ### HOMED (R52) -/

theorem Change.keeps_unhomed {P : Permit → Prop} {s t : State} (h : Change P s t) (hp : ¬ P .homes)
    (hs : s.seq.homed = false) : t.seq.homed = false := by
  cases h with
  | seq q _ _ hhomed =>
    refine Bool.eq_false_iff.2 fun e => (hhomed e).elim (fun h => ?_) hp
    simp [hs] at h
  | reset => rwa [s.resetWork_eq]
  | useRecord => rwa [s.useRecord_eq]
  | pushResidual => rwa [s.pushResidual_eq]
  | endRecord r =>
    cases ha : s.seq.active with
    | none => rwa [s.endRecord_none r ha]
    | some a => rwa [s.endRecord_some r a ha]
  | take src => cases src <;> exact hs
  | _ => exact hs

/-- Settles O43: what permits a command to set HOMED is what the statement names. -/
theorem homedIsSetOnlyByHomingAndSetPosition : Obligations.HomedIsSetOnlyByHomingAndSetPosition := by
  intro c s t hunset hstep hset
  rcases exec_cases c s t hstep with ⟨-, pin, rfl⟩ | ⟨-, -, hchanges⟩
  · cases hset
  · by_contra hp
    have := hchanges.keeps (I := fun u => u.seq.homed = false) (fun _ _ h => h.keeps_unhomed hp) hunset
    simp [hset] at this

/-! ### The step and the reset -/

theorem step_of_empty (s : State) (h : s.pending = []) : step s = .next s.idles := by
  rw [step, h]

/-- Settles O1: both clauses read the queue of commands, and the idle step looks at ENC-Z alone. -/
theorem stepRunsTheFrontCommand : Obligations.StepRunsTheFrontCommand := by
  refine ⟨fun c rest s h => ?front, fun s h => ⟨fun hz => ?inactive, fun hz => ?active⟩⟩
  case front => rw [step, h]; rfl
  case inactive => rw [step_of_empty s h, s.idles_inactive hz]
  case active => exact ⟨Config.indexLevel s.indexCount, by rw [step_of_empty s h, s.idles_active hz]⟩

/-- A station after reset does not move, so it steps toward no limit. -/
theorem State.reset_motionInv : State.reset.motionInv :=
  ⟨by decide, by decide, by decide, by decide, by decide, fun side h => by cases side <;> cases h⟩

/-- Settles O60: the reset state is written out, and each invariant is a finite fact about it. -/
theorem invariantsHoldAtReset : Obligations.InvariantsHoldAtReset :=
  ⟨by decide, by decide, by decide, by decide, by decide, State.reset_motionInv, by decide, by decide⟩

end Sys2Proof.Machine

/-! ## Proofs: an ARMED station begins work only at the mark numbered S (R32, R99) -/

namespace Sys2Proof.Machine

/-! ### Faults of a station without a record -/

theorem State.clearHomedFor_station (s : State) (k : FaultKind) :
    (s.clearHomedFor k).station = s.station := by
  unfold State.clearHomedFor; split <;> rfl

theorem State.pulseFor_station (s : State) (k : FaultKind) : (s.pulseFor k).station = s.station := by
  unfold State.pulseFor State.startPulse
  repeat' split
  all_goals rfl

/-- The station has no record that could move. -/
def Still (s : State) : Prop :=
  s.station = .idle ∨ s.station = .held ∨ s.station = .armed ∨ s.station = .faulted

/-- A fault leads a station without a record to FAULTED. -/
theorem Still.recordFault_station {s : State} (h : Still s) (k : FaultKind) (t : Option Tag) :
    (s.recordFault k t).station = .faulted := by
  have hraised : ((s.logFault k t).raiseInvolved .fault s.own).station = s.station := rfl
  have honline : s.station ≠ .offline := by rcases h with h | h | h | h <;> simp [h]
  rw [s.recordFault_online k t honline, State.pulseFor_station, State.clearHomedFor_station,
    State.faultStation, hraised]
  rcases h with h | h | h | h <;> simp only [h]
  · rfl
  · rfl
  · rfl
  · exact h

theorem State.recordFault_station_of_armed (s : State) (k : FaultKind) (t : Option Tag)
    (h : s.station = .armed) : (s.recordFault k t).station = .faulted :=
  Still.recordFault_station (.inr (.inr (.inl h))) k t

/-- The station waits ARMED, or has faulted. -/
def ArmedOrFaulted (s : State) : Prop := s.station = .armed ∨ s.station = .faulted

namespace ArmedOrFaulted

variable {s : State}

theorem not_running (h : ArmedOrFaulted s) : s.station ≠ .running := by
  rcases h with h | h <;> simp [h]

theorem recordFault (h : ArmedOrFaulted s) {k : FaultKind} {t : Option Tag} :
    ArmedOrFaulted (s.recordFault k t) :=
  .inr (Still.recordFault_station (.inr (.inr h)) k t)

theorem checkFollowing (h : ArmedOrFaulted s) {before : State} :
    ArmedOrFaulted (before.checkFollowing s) := by
  unfold State.checkFollowing
  split
  · exact h.recordFault
  · exact h

theorem countEdge (h : ArmedOrFaulted s) {d : Side} : ArmedOrFaulted (s.countEdge d) := by
  have hcounted : ∀ e, ArmedOrFaulted (s.setEncoder e) := fun _ => h
  simp only [State.countEdge]
  split
  · exact hcounted _
  · have hchecked := (hcounted (s.encoder.edge s.cfg.divisor d)).checkFollowing (before := s)
    unfold State.settleTest
    rw [if_neg fun hs => hchecked.elim (fun e => by simp [e] at hs) fun e => by simp [e] at hs]
    exact hchecked

theorem pairChange (h : ArmedOrFaulted s) {a b : Bool} : ArmedOrFaulted (s.pairChange a b) := by
  have hcounted : ∀ (ds : List Side) (u : State), ArmedOrFaulted u → ArmedOrFaulted (u.countEdges ds) := by
    intro ds
    induction ds with
    | nil => exact fun _ hu => hu
    | cons d ds ih => exact fun u hu => ih (u.countEdge d) hu.countEdge
  have htaken : ArmedOrFaulted (s.takePair a b) := h
  simp only [State.pairChange]
  split
  · exact (hcounted _ _ htaken).recordFault
  · exact hcounted _ _ htaken

end ArmedOrFaulted

/-! ### A station that waits -/

/-- The station waits ARMED with the barrier's candidate, has faulted, or has its candidate in a HALTED
group: in none of them does a candidate start. -/
def Waits (s : State) : Prop :=
  (s.station = .armed ∧ ∃ b, s.barrier = some b ∧ s.candidateFits b) ∨ s.station = .faulted ∨
  ((s.station = .idle ∨ s.station = .held) ∧
    ∃ src w, s.candidate = some (src, w) ∧ s.groupHalted w.group = true)

/-- A halted candidate gets no further than HELD. -/
theorem State.dispatch_halted (s : State) (src : Source) (w : Work)
    (hs : s.station = .idle ∨ s.station = .held) (hc : s.candidate = some (src, w))
    (hh : s.groupHalted w.group = true) :
    s.dispatch = s.setStation .idle ∨ s.dispatch = s.setStation .held := by
  have hgate : s.gate w = .idle ∨ s.gate w = .held := by
    simp only [State.gate, hh, if_true]
    split
    · exact .inl rfl
    · exact .inr rfl
  have hstarts : s.dispatchStarts = false := by
    simp only [State.dispatchStarts, hc]
    rcases hgate with h | h <;> rw [h] <;> rfl
  rw [State.dispatch, if_pos hs, State.dispatchRounds, hstarts, Bool.false_and, if_neg (by decide),
    State.dispatchOnce, hc]
  rcases hgate with h | h
  · exact .inl (by simp only [h])
  · exact .inr (by simp only [h])

namespace Waits

variable {s : State}

theorem not_running (h : Waits s) : s.station ≠ .running := by
  rcases h with ⟨h, -⟩ | h | ⟨h | h, -⟩ <;> simp [h]

theorem dispatch (h : Waits s) : Waits s.dispatch := by
  have hsame := h
  rcases h with ⟨h, -⟩ | h | ⟨hs, src, w, hc, hh⟩
  · rwa [s.dispatch_busy (by simp [State.busy, h])]
  · rwa [s.dispatch_busy (by simp [State.busy, h])]
  · rcases s.dispatch_halted src w hs hc hh with e | e <;> rw [e]
    · exact .inr (.inr ⟨.inl rfl, src, w, hc, hh⟩)
    · exact .inr (.inr ⟨.inr rfl, src, w, hc, hh⟩)

/-- Reading the members of an armed barrier sets its S, leaves it, or faults. -/
theorem readMembers {b : BarrierRec} (hs : s.station = .armed) (hb : s.barrier = some b)
    (hfits : s.candidateFits b) : Waits s.readMembers := by
  have hsame : Waits s := .inl ⟨hs, b, hb, hfits⟩
  simp only [State.readMembers, State.computeStart, hb]
  repeat' split
  · exact hsame
  · exact .inr (.inl (s.recordFault_station_of_armed _ _ hs))
  · exact .inr (.inl (s.recordFault_station_of_armed _ _ hs))
  · exact .inl ⟨hs, _, rfl, hfits⟩
  · exact hsame

/-- The arming of a barrier is cancelled when the group of its candidate has become HALTED. -/
theorem cancelArming {b : BarrierRec} (hfits : s.candidateFits b)
    (hh : (s.group b.group).condition = .halted) : Waits s.cancelArming := by
  obtain ⟨src, w, hc, -, hgroup⟩ := hfits
  have hne : b.group ≠ 0 := Nat.one_le_iff_ne_zero.1 (s.group_in_table b.group hh).1
  refine .inr (.inr ⟨.inr rfl, src, w, hc, ?_⟩)
  rw [hgroup]
  exact Bool.and_eq_true_iff.2 ⟨decide_eq_true hne, decide_eq_true hh⟩

/-- What a changed group does to a waiting station leaves it waiting (R103, R105, R123, R124). -/
theorem groupChanged (h : Waits s) {g : Nat} : Waits (s.groupChanged g) := by
  have hsame := h
  have hdispatch := h.dispatch
  rcases h with ⟨harmed, b, hb, hfits⟩ | hfaulted | ⟨hs, -⟩
  · cases hcond : (s.group g).condition with
    | halted =>
      simp only [State.groupChanged, hcond, State.groupBecameHalted, harmed, hb, Option.any_some]
      split
      case isTrue hg => exact cancelArming hfits (of_decide_eq_true hg ▸ hcond)
      case isFalse => exact hsame
    | clear =>
      simp only [State.groupChanged, hcond, State.groupBecameClear, harmed, hb]
      split
      · exact readMembers (s := s.setBarrier _) harmed rfl hfits
      · exact hsame
  · have : s.groupChanged g = s := by
      simp only [State.groupChanged, State.groupBecameHalted, State.groupBecameClear, hfaulted]
      split <;> rfl
    rwa [this]
  · have : s.groupChanged g = s.dispatch := by
      rcases hs with hs | hs <;>
        simp only [State.groupChanged, State.groupBecameHalted, State.groupBecameClear, hs] <;>
        split <;> rfl
    rwa [this]

theorem tellChanges (h : Waits s) {before : State} : Waits (before.tellChanges s) := by
  unfold State.tellChanges
  generalize groupNumbers.filter _ = gs
  induction gs generalizing s with
  | nil => exact h
  | cons g gs ih => exact ih h.groupChanged

end Waits

/-- A station that is ARMED with the barrier's candidate waits, whatever the table of groups holds. -/
theorem State.waits_of_armed {s : State} (hs : s.station = .armed) (ha : s.armedOk = true) : Waits s :=
  .inl ⟨hs, s.armedOk_iff.1 ha hs⟩

/-! ### The loss of a member while ARMED -/

/-- A list without repetition whose elements are all one element holds it at most once. -/
theorem nodup_of_all_eq {α : Type} {a : α} {l : List α} (hl : l.Nodup) (h : ∀ x ∈ l, x = a) :
    l = [] ∨ l = [a] := by
  rw [List.eq_replicate_of_mem h] at hl ⊢
  have := List.nodup_replicate.1 hl
  interval_cases l.length
  · exact .inl rfl
  · exact .inr rfl

/-- A write to one group is told for that group or for none. -/
theorem State.tellChanges_setGroup_cases (s : State) (g : Nat) (x : GroupEntry) :
    s.tellChanges (s.setGroup g x) = s.setGroup g x ∨
    s.tellChanges (s.setGroup g x) = (s.setGroup g x).groupChanged g := by
  have honly : ∀ h ∈ groupNumbers.filter (fun h => (s.group h).moved ((s.setGroup g x).group h)),
      h = g := by
    intro h hmem
    by_contra hne
    have hmoved := List.of_mem_filter hmem
    simp [s.group_setGroup_of_ne x hne, GroupEntry.moved_self] at hmoved
  have hnodup : groupNumbers.Nodup := by decide
  rw [State.tellChanges]
  rcases nodup_of_all_eq (hnodup.filter _) honly with h | h <;> rw [h]
  · exact .inl rfl
  · exact .inr rfl

/-- Raising a halt writes the table, and tells the station of the group it has halted (R114). -/
theorem State.raiseHalt_cases (s : State) (g : Nat) (c : Cause) (o : Nat) :
    s.raiseHalt g c o = s.raiseInTable g c o ∨
    s.raiseHalt g c o = (s.raiseInTable g c o).groupBecameHalted g := by
  rcases s.tellChanges_setGroup_cases g ((s.group g).raise c o s.link.cycle) with h | h
  · exact .inl h
  · cases hcond : (s.group g).condition with
    | halted =>
      rw [s.raiseHalt_of_halted g c o hcond, s.raiseInTable_of_halted g c o hcond]
      exact .inl rfl
    | clear =>
      by_cases hg : 1 ≤ g ∧ g ≤ s.groups.length
      · have hentry := s.group_raiseInTable_of_clear g c o hg.1 hg.2 hcond
        refine .inr (h.trans ?_)
        rw [← State.raiseInTable, State.groupChanged, hentry]
      · have hsame : s.raiseInTable g c o = s := by
          unfold State.raiseInTable State.setGroup
          split
          · rfl
          · rw [List.set_eq_of_length_le (by omega)]; rfl
        rw [State.raiseHalt, hsame, s.tellChanges_self]
        exact .inl rfl

theorem State.raiseInTable_eq (s : State) (g : Nat) (c : Cause) (o : Nat) :
    ∃ gs, s.raiseInTable g c o = { s with groups := gs } := by
  unfold State.raiseInTable State.setGroup
  split
  · exact ⟨s.groups, rfl⟩
  · exact ⟨_, rfl⟩

/-- The station is ARMED with this barrier record, or its arming has been cancelled. -/
def ArmedWith (b : BarrierRec) (s : State) : Prop :=
  (s.station = .armed ∧ s.barrier = some b) ∨ (s.station = .held ∧ s.barrier = none)

namespace ArmedWith

variable {s : State} {b : BarrierRec}

theorem not_running (h : ArmedWith b s) : s.station ≠ .running := by
  rcases h with ⟨h, -⟩ | ⟨h, -⟩ <;> simp [h]

/-- A lost address cancels the arming or leaves it (R102, R103). -/
theorem losePeer (h : ArmedWith b s) {a : Nat} : ArmedWith b (s.losePeer a) := by
  have hfollower : ∀ {u : State}, ArmedWith b u → ArmedWith b (u.followerLost a) := by
    intro u hu
    unfold State.followerLost State.checkLeader State.leaderLost State.tracking
    simpa [hu.not_running] using hu
  have hmember : ∀ {u : State}, ArmedWith b u → ArmedWith b (u.memberLost a) := by
    intro u hu
    unfold State.memberLost
    rcases hu with ⟨hs, hb⟩ | ⟨hs, hb⟩
    · simp only [hb]
      split
      · obtain ⟨gs, he⟩ := u.raiseInTable_eq b.group .peerLost a
        rcases u.raiseHalt_cases b.group .peerLost a with h | h <;> rw [h, he]
        · exact .inl ⟨hs, hb⟩
        · rw [State.groupBecameHalted_of_armed { u with groups := gs } b.group b hs hb rfl]
          exact .inr ⟨rfl, rfl⟩
      · exact .inl ⟨hs, hb⟩
    · simp only [hb]
      exact .inr ⟨hs, hb⟩
  unfold State.losePeer
  split
  · exact hfollower (hmember (u := s.setPeer a _) h)
  · exact h

theorem countMisses (h : ArmedWith b s) : ArmedWith b s.countMisses := by
  unfold State.countMisses
  have hjudged : ArmedWith b s.judgePeers := h
  revert hjudged
  generalize s.judgePeers = u
  induction List.range 32 generalizing u with
  | nil => exact id
  | cons a l ih => exact fun hu => ih _ hu.losePeer

end ArmedWith

/-! ### Each command at an ARMED station -/

/-- The parts of a barrier that is not started at its mark: a fault, a count or a new arming. -/
theorem State.markBarrier_notRunning {s : State} (hs : s.station = .armed) (slip : Bool)
    (hdue : slip = true ∨ s.startDue = false) : (s.markBarrier slip).station ≠ .running := by
  have hfault : ∀ {u : State} {k t}, u.station = .armed → (u.recordFault k t).station ≠ .running :=
    fun hu => by rw [State.recordFault_station_of_armed _ _ _ hu]; decide
  have hnot : s.station ≠ .running := by simp [hs]
  cases slip with
  | true =>
    unfold State.markBarrier State.slipBarrier
    simp only [if_true]
    repeat' split
    · exact hnot
    · exact hnot
    · exact hfault hs
    · exact hnot
  | false =>
    have hdue : s.startDue = false := hdue.resolve_left (by decide)
    have hcounted : s.countWait.station = .armed := by
      unfold State.countWait
      repeat' split
      all_goals exact hs
    unfold State.markBarrier State.checkWait
    rw [if_neg (by decide), hdue, if_neg (by decide)]
    split
    · exact hfault hcounted
    · simp [hcounted]

/-- The parts of a new cycle leave the link. -/
theorem State.losePeer_link (s : State) (a : Nat) : (s.losePeer a).link = s.link := by
  unfold State.losePeer
  split
  · exact (outside_parts ((State.followerLost_outside _ a).trans (State.memberLost_outside _ a))).2.1
  · rfl

theorem State.countMisses_link (s : State) : s.countMisses.link = s.link := by
  unfold State.countMisses
  have : ∀ (l : List Nat) (u : State), (l.foldl State.losePeer u).link = u.link := by
    intro l
    induction l with
    | nil => exact fun _ => rfl
    | cons a l ih => exact fun u => (ih _).trans (u.losePeer_link a)
  exact this _ _

/-- At an ARMED station a mark reaches the barrier once the losses have been counted. -/
theorem State.signalCycle_of_armed (s : State) (slip : Bool) (hs : s.station = .armed) :
    s.signalCycle slip =
      if s.countMisses.station = .armed then s.countMisses.markBarrier slip else s.countMisses := by
  rw [State.signalCycle, State.markWork, if_pos hs]

/-- The mark that opens a cycle starts an ARMED station only where it is numbered S (R99). -/
theorem State.newCycle_running (s : State) (m : Cycle) (slip : Bool) (hs : s.station = .armed)
    {b : BarrierRec} (hb : s.barrier = some b) (hrun : (s.newCycle m slip).station = .running) :
    b.start = some (s.newCycle m slip).link.cycle := by
  revert hrun
  rw [State.newCycle]
  generalize hu : (State.setLink _ _ : State) = u
  have hus : u.station = .armed := by rw [← hu]; exact hs
  have hub : u.barrier = some b := by rw [← hu]; exact hb
  have hcounted : ArmedWith b u.countMisses := ArmedWith.countMisses (.inl ⟨hus, hub⟩)
  rw [u.signalCycle_of_armed slip hus]
  split
  case isFalse => exact fun hrun => absurd hrun hcounted.not_running
  case isTrue harmed =>
    intro hrun
    have hdue : slip = false ∧ u.countMisses.startDue = true := by
      by_contra hnot
      refine State.markBarrier_notRunning harmed slip ?_ hrun
      cases slip <;> simp_all
    obtain ⟨rfl, hdue⟩ := hdue
    have hbar : u.countMisses.barrier = some b := by
      rcases hcounted with ⟨-, h⟩ | ⟨h, -⟩
      · exact h
      · simp [h] at harmed
    rw [State.markBarrier, if_neg (by decide), if_pos hdue,
      (outside_parts (State.startBarrier_outside _)).2.1]
    simp only [State.startDue, hbar, harmed, Bool.and_eq_true, decide_eq_true_eq] at hdue
    exact hdue.2.2

/-- A mark heard starts an ARMED station only at S. -/
theorem State.hearMark_running (s : State) (m : Cycle) (check : Byte) (hs : s.station = .armed)
    (hl : s.link.state ≠ .listening) {b : BarrierRec} (hb : s.barrier = some b)
    (hrun : (s.hearMark m check).station = .running) :
    b.start = some (s.hearMark m check).link.cycle := by
  have hrunning : (s.markRunning m).station = .running →
      b.start = some (s.markRunning m).link.cycle := by
    unfold State.markRunning
    repeat' split
    · exact s.newCycle_running _ _ hs hb
    · intro h
      simp [State.restartTiming, hs] at h
    · exact s.newCycle_running _ _ hs hb
  revert hrun
  unfold State.hearMark
  split
  · intro h
    simp [hs] at h
  · cases hstate : s.link.state with
    | offline => intro h; simp [hs] at h
    | listening => exact absurd hstate hl
    | joined => exact hrunning
    | silent => exact hrunning

/-- Reading the members leaves a station without a record, or faults it. -/
theorem Still.readMembers_notRunning {s : State} (h : Still s) : s.readMembers.station ≠ .running := by
  have hnot : s.station ≠ .running := by rcases h with h | h | h | h <;> simp [h]
  have hfault : ∀ k t, (s.recordFault k t).station ≠ .running := fun k t => by
    simp [h.recordFault_station]
  simp only [State.readMembers, State.computeStart]
  repeat' split
  · exact hnot
  · exact hnot
  · exact hfault _ _
  · exact hfault _ _
  · exact hnot
  · exact hnot

theorem Waits.still {s : State} (h : Waits s) : Still s := by
  rcases h with ⟨h, -⟩ | h | ⟨h | h, -⟩
  · exact .inr (.inr (.inl h))
  · exact .inr (.inr (.inr h))
  · exact .inl h
  · exact .inr (.inl h)

/-- A STATUS never starts an ARMED station: the groups it changes leave the station waiting. -/
theorem State.takeStatus_notRunning (s : State) (a : Nat) (body : List Byte)
    (hs : s.station = .armed) (ha : s.armedOk = true) :
    (s.takeStatus a body).station ≠ .running := by
  have hread : ∀ {u : State}, Waits u → (u.readStatusOf a).station ≠ .running := by
    intro u hu
    unfold State.readStatusOf
    repeat' split
    · exact hu.not_running
    · exact Still.readMembers_notRunning hu.still
    · exact hu.not_running
  unfold State.takeStatus
  repeat' split
  · simp [hs]
  · simp [hs]
  · rename_i p _ _
    have hadopted : Waits ((s.setPeer a { s.peer a with status := some p }).adopt p a) :=
      Waits.tellChanges (s := State.hearVector (s.setPeer a _) p a) (State.waits_of_armed hs ha)
    have hnot := hread hadopted
    unfold State.readStatus State.followStatus State.tracking
    rw [if_neg fun h => hnot (of_decide_eq_true (Bool.and_eq_true_iff.1 h.1).2)]
    exact hnot

theorem State.tellGroup_notRunning (s : State) (g : Nat) (x : GroupEntry) (hs : s.station = .armed)
    (ha : s.armedOk = true) : (s.tellChanges (s.setGroup g x)).station ≠ .running := by
  refine (Waits.tellChanges ?_).not_running
  unfold State.setGroup
  split
  · exact State.waits_of_armed hs ha
  · exact State.waits_of_armed (s := s.setGroups _) hs ha

/-- Dispatch does not run at an ARMED station. -/
theorem State.dispatch_station_of_armed {s : State} (hs : s.station = .armed) :
    s.dispatch.station = .armed := by
  rw [s.dispatch_busy (by simp [State.busy, hs]), hs]

/-- A SEGMENT is refused, or placed behind the armed candidate (R77). -/
theorem State.takeSegment_of_armed (s : State) (body : List Byte) (hs : s.station = .armed) :
    (s.takeSegment body).station = .armed := by
  have haccept : ∀ e, (s.accept e).station = .armed := fun e => by
    have hpre : s.preempts = false := by simp [State.preempts, hs]
    simp only [State.accept, hpre, Bool.and_false, Bool.false_eq_true, if_false]
    exact State.dispatch_station_of_armed hs
  unfold State.takeSegment State.takeCurrent
  repeat' split
  · exact hs
  · exact hs
  · exact hs
  · exact haccept _
  · exact hs
  · exact hs

theorem State.takeFlush_of_armed (s : State) (body : List Byte) (hs : s.station = .armed) :
    (s.takeFlush body).station = .armed := by
  simp only [State.takeFlush, State.doFlush]
  repeat' split
  · exact hs
  · exact hs
  · exact State.dispatch_station_of_armed hs

/-- STATION_RESET leaves no work that could start. -/
theorem State.takeReset_notRunning (s : State) (a : Nat) (body : List Byte)
    (hs : s.station = .armed) : (s.takeReset a body).station ≠ .running := by
  simp only [State.takeReset, State.resetWork_eq]
  split
  · simp [State.refuse_eq, State.station, show s.seq.station = _ from hs]
  · generalize hu : (State.mk .. : State) = u
    have hidle : u.station = .idle := by rw [← hu]; rfl
    have hwork : u.noWork := by rw [← hu]; exact ⟨rfl, rfl⟩
    have hlevel : u.levelTests = u ∨ u.levelTests.station = .faulted := by
      have hfault : ∀ k, (u.faultOfActive k).station = .faulted := fun k =>
        Still.recordFault_station (.inl hidle) _ _
      simp only [State.levelTests]
      repeat' split
      · exact .inr (Still.recordFault_station (.inr (.inr (.inr (hfault _)))) _ _)
      · exact .inr (hfault _)
      · exact .inr (hfault _)
      · exact .inl rfl
    rcases hlevel with h | h
    · rw [h, u.dispatch_noWork hwork (.inl hidle)]; simp
    · rw [State.dispatch_busy _ (by simp [State.busy, h]), h]; decide

/-- Listening back may fault an ARMED station, and does not start it. -/
theorem State.listen_notRunning (s : State) (heard : Option (List Byte)) (hs : s.station = .armed) :
    (s.listen heard).station ≠ .running := by
  have hnot : s.station ≠ .running := by simp [hs]
  simp only [State.listen]
  split
  · split
    · have hfault : ∀ x, ((s.countListen x).fallSilent).station = .faulted := fun x =>
        State.recordFault_station_of_armed (State.setLink (s.countListen x) _) _ _ hs
      rw [State.enterIdle_other _ _ (by rw [hfault]; decide), hfault]
      decide
    · exact hnot
  all_goals exact hnot

/-- An ARMED station has no motion for a limit or HOME to act on. -/
theorem State.limitChange_station_of_armed (s : State) (d : Side) (active : Bool)
    (hs : s.station = .armed) : (s.limitChange d active).station = .armed := by
  have hset : (s.setLimit d active).station = .armed := by cases d <;> exact hs
  have hreached : ((s.setLimit d active).limitReached d).station = .armed := by
    unfold State.limitReached State.judgeHomingLimit State.judgeLimit State.steppingToward
    simp [hset]
  simp only [State.limitChange]
  split
  · rw [State.enterIdle_other _ _ (by simp [hreached]), hreached]
  · exact hset

theorem State.homingRuns_of_armed {s : State} (hs : s.station = .armed) : s.homingRuns = false := by
  simp [State.homingRuns, hs]

/-- The own mark starts an ARMED station only at S. -/
theorem State.markTimer_running (s : State) (l : Link) (hs : s.station = .armed) {b : BarrierRec}
    (hb : s.barrier = some b) (hrun : ((s.setLink l).newCycle (s.link.cycle + 1) false).station = .running) :
    b.start = some ((s.setLink l).newCycle (s.link.cycle + 1) false).link.cycle :=
  (s.setLink l).newCycle_running _ _ hs hb hrun

/-- BARRIER_START starts an ARMED station only at S. -/
theorem State.checkStart_running (s : State) (hs : s.station = .armed) {b : BarrierRec}
    (hb : s.barrier = some b) (hrun : s.checkStart.station = .running) :
    b.start = some s.checkStart.link.cycle := by
  have hdue : s.startDue = true := by
    by_contra hnot
    rw [State.checkStart, if_neg hnot, hs] at hrun
    cases hrun
  rw [(outside_parts s.checkStart_outside).2.1]
  simp only [State.startDue, hb, hs, Bool.and_eq_true, decide_eq_true_eq] at hdue
  exact hdue.2.2

/-- A load ends with the station state it found. -/
theorem State.judgeRecord_station (s : State) (bytes : List Byte) (straps : BitVec 5)
    (levels : BitVec 7) : (s.judgeRecord bytes straps levels).station = s.station := by
  unfold State.judgeRecord
  repeat' split
  · rfl
  · rw [State.useRecord_eq]; rfl
  · rfl

/-- A change of the encoder pair may fault an ARMED station, and does not start it. -/
theorem State.encoderChange_notRunning (s : State) (a b : Bool) (hs : s.station = .armed) :
    (s.enterIdle (s.pairChange a b)).station ≠ .running := by
  have hpair : ArmedOrFaulted (s.pairChange a b) := ArmedOrFaulted.pairChange (.inl hs)
  rw [State.enterIdle_other _ _ (by rcases hpair with h | h <;> simp [h])]
  exact hpair.not_running

theorem State.takeStop_notRunning (s : State) (body : List Byte) (hs : s.station = .armed) :
    (s.takeStop body).station ≠ .running := by
  unfold State.takeStop State.doStop
  rw [hs]
  split <;> simp [State.refuse_eq, State.station, show s.seq.station = _ from hs]

theorem State.takeContinue_notRunning (s : State) (body : List Byte) (hs : s.station = .armed) :
    (s.takeContinue body).station ≠ .running := by
  have hnot : s.station ≠ .running := by simp [hs]
  unfold State.takeContinue
  repeat' split
  · exact hnot
  · rw [State.dispatch_station_of_armed (s := s.setSeq { s.seq with paused := false }) hs]; decide
  · exact hnot

/-- What a command of the table does to an ARMED station, but for marks and BARRIER_START: it does not
start it. -/
theorem exec_notRunning (c : Instr) (s t : State) (hs : s.station = .armed) (ha : s.armedOk = true)
    (hl : s.link.state ≠ .listening) (hframe : ∀ o n bs, c ≠ .frameReceived o n bs)
    (hheard : ∀ m k, c ≠ .markHeard m k) (htimer : c ≠ .markTimerExpiry) (hstart : c ≠ .barrierStart)
    (hstep : exec c s = .next t) : t.station ≠ .running := by
  have hnot : s.station ≠ .running := by simp [hs]
  obtain ⟨b, hb, -⟩ := s.armedOk_iff.1 ha hs
  have hite : ∀ {p : Prop} [Decidable p] {u : State}, (p → u.station ≠ .running) →
      (if p then u else s).station ≠ .running := by
    intro p _ u hu
    split
    · exact hu ‹_›
    · exact hnot
  have hfault : ∀ {u : State} {k tag}, u.station = .armed → (u.recordFault k tag).station ≠ .running :=
    fun hu => by rw [State.recordFault_station_of_armed _ _ _ hu]; decide
  have hdispatch : ∀ {u : State}, u.station = .armed → u.dispatch.station ≠ .running := fun hu => by
    rw [State.dispatch_station_of_armed hu]; decide
  cases c with
  | frameReceived => exact absurd rfl (hframe _ _ _)
  | markHeard => exact absurd rfl (hheard _ _)
  | markTimerExpiry => exact absurd rfl htimer
  | barrierStart => exact absurd rfl hstart
  | powerOn => cases hstep; nofun
  | pinReset => cases hstep; nofun
  | resetPinRelease => cases hstep; exact hite fun _ => hnot
  | configLoadDone => cases hstep; exact hite fun _ => by rwa [State.judgeRecord_station]
  | configReadTimeout => cases hstep; exact hite fun _ => hnot
  | silenceTimerExpiry => cases hstep; exact hite fun h => absurd h hl
  | peerLost a => cases hstep; exact (ArmedWith.losePeer (.inl ⟨hs, hb⟩)).not_running
  | dwellEnd => cases hstep; exact hite fun h => by simp [State.dwellOver, State.dwellRuns, hs] at h
  | barrierTimeout => cases hstep; exact hite fun _ => hfault hs
  | settleTimeout => cases hstep; exact hite fun h => by simp [State.settleOver, hs] at h
  | followLost => cases hstep; exact hite fun h => by simp [State.leaderLost, State.tracking, hs] at h
  | status a d body => cases hstep; exact hite fun _ => s.takeStatus_notRunning a body hs ha
  | segment a d body => cases hstep; exact hite fun _ => by simp [s.takeSegment_of_armed body hs]
  | flush a d body => cases hstep; exact hite fun _ => by simp [s.takeFlush_of_armed body hs]
  | stop a d body => cases hstep; exact hite fun _ => s.takeStop_notRunning body hs
  | resume a d body => cases hstep; exact hite fun _ => s.takeContinue_notRunning body hs
  | setPosition a d body =>
    cases hstep
    refine hite fun _ => ?_
    rw [State.takeSetPosition, hs]
    simp only
    split <;> exact hnot
  | halt a d body =>
    cases hstep
    refine hite fun _ => ?_
    unfold State.takeHalt
    split
    · exact s.tellGroup_notRunning _ _ hs ha
    · exact hnot
  | release a d body =>
    cases hstep
    refine hite fun _ => ?_
    unfold State.takeRelease
    split
    · exact s.tellGroup_notRunning _ _ hs ha
    · exact hnot
  | clearFault a d body =>
    cases hstep
    refine hite fun _ => ?_
    rw [State.takeClearFault, if_pos (c := s.station ≠ .faulted) (by simp [hs])]
    split <;> exact hnot
  | query a d body =>
    cases hstep
    refine hite fun _ => ?_
    unfold State.takeQuery
    split <;> exact hnot
  | stationReset a d body => cases hstep; exact hite fun _ => s.takeReset_notRunning a body hs
  | slotStart =>
    cases hstep
    refine hite fun _ => ?_
    simp only [State.slotBegins, State.afterReport, State.clearCounters_eq]
    repeat' split
    all_goals exact hnot
  | listenBack heard => cases hstep; exact s.listen_notRunning heard hs
  | stepDue => cases hstep; exact hite fun h => by simp [State.stepPends, hs] at h
  | limitInputChange d active =>
    cases hstep
    exact hite fun _ => by simp [s.limitChange_station_of_armed d active hs]
  | homeInputChange active =>
    cases hstep
    refine hite fun _ => ?_
    simp only [State.homeChange,
      State.homingRuns_of_armed (s := s.setDrive { s.drive with home := active }) hs]
    exact hnot
  | indexEdge =>
    cases hstep
    refine hite fun _ => ?_
    simp only [State.indexRises,
      State.homingRuns_of_armed (s := s.setDrive { s.drive with encZ := true }) hs]
    exact hnot
  | drvFltChange active =>
    cases hstep
    refine hite fun _ => ?_
    simp only [State.drvFltChange]
    split
    · exact hfault (u := s.setDrive _) hs
    · exact hnot
  | encoderChange a b => cases hstep; exact hite fun _ => s.encoderChange_notRunning a b hs
  | drvClrPulseEnd =>
    cases hstep
    refine hite fun _ => ?_
    simp only [State.pulseEnds]
    split
    · exact hdispatch (u := State.setDrive _ _) hs
    · exact hnot
  | holdoffEnd => cases hstep; exact hite fun _ => hdispatch (u := s.setDrive _) hs

/-- Settles O17: a mark that opens a cycle and BARRIER_START begin the work at S; every other command
leaves an ARMED station waiting, cancels its arming or faults it. -/
theorem armedStationStartsOnlyAtS : Obligations.ArmedStationStartsOnlyAtS := by
  intro c s t hs hlink ha hframe hstep hrun
  obtain ⟨b, hb, -⟩ := s.armedOk_iff.1 ha hs
  have hlistening : s.link.state ≠ .listening := fun h => by
    simp [hlink.1.2 (.inr h)] at hs
  refine ⟨b, hb, ?_⟩
  by_cases hheard : ∃ m k, c = .markHeard m k
  · obtain ⟨m, k, rfl⟩ := hheard
    cases hstep
    exact s.hearMark_running m k hs hlistening hb hrun
  by_cases htimer : c = .markTimerExpiry
  · subst htimer
    cases hstep
    revert hrun
    split
    · exact s.markTimer_running _ hs hb
    · intro hrun
      simp [hs] at hrun
  by_cases hstart : c = .barrierStart
  · subst hstart
    cases hstep
    exact s.checkStart_running hs hb hrun
  · exact absurd hrun (exec_notRunning c s t hs ha hlistening hframe
      (fun m k e => hheard ⟨m, k, e⟩) htimer hstart hstep)

end Sys2Proof.Machine

/-! ## Proofs: the motion invariant, operation by operation (R25, R34, R54, R133, R145, R151) -/

namespace Sys2Proof.Machine

/-- The motion invariant, in which the limits may be in question (`l`), as when a limit has just become
ACTIVE, and so may be the phase of a homing (`h`), as between the forming of its record and its start. -/
structure Moves (l h : Prop) (s : State) : Prop where
  record : s.recordOk
  gen : s.genOk
  motion : s.motionOk
  follow : s.followOk
  limits : l → s.limitsRespected
  homing : h → s.homingOk = true

/-- The generator stands still and holds no run (R54). -/
def Gen.stands (g : Gen) : Prop := g.phase = .standstill ∧ g.run = none ∧ g.rate = 0

theorem Gen.ceased_stands (g : Gen) : g.ceased.stands := ⟨rfl, rfl, rfl⟩

theorem Gen.moves_of_not_stopsAtOnce {g : Gen} (hg : g.stopsAtOnce = false) :
    g.phase ≠ .standstill ∧ g.run ≠ none := by
  unfold Gen.stopsAtOnce at hg
  split at hg <;> simp_all

theorem Gen.stopsAtOnce_of_noRun {g : Gen} (hg : g.run = none) : g.stopsAtOnce = true := by
  unfold Gen.stopsAtOnce
  split <;> simp_all

theorem Gen.brake_dir (g : Gen) : g.brake.dir = g.dir := by
  unfold Gen.brake
  split <;> rfl

theorem Gen.brake_moves (g : Gen) (hphase : g.phase ≠ .standstill) (hrun : g.run ≠ none) :
    g.brake.phase ≠ .standstill ∧ g.brake.run ≠ none := by
  unfold Gen.brake
  split
  · exact ⟨hphase, hrun⟩
  · simpa using hrun

theorem State.ceaseFollow_seq (s : State) : s.ceaseFollow.seq = s.seq := by
  unfold State.ceaseFollow
  split <;> rfl

/-- A stop of an active record: the queue is unbound, the Follow Unit ceases, and the record takes the
disposition before the motion stops (R46). -/
theorem State.beginStop_eq (s : State) (d : Disposition) (immediate faultEnded : Bool) (a : Active)
    (ha : s.seq.active = some a) : s.beginStop d immediate faultEnded =
      (s.unbind.ceaseFollow.setActive (some { a with
        disposition := some d, faultEnded := faultEnded, reserved := decide (d = .preempt),
        bound := none })).stopMotion immediate := by
  have hactive : s.unbind.ceaseFollow.seq.active = some { a with bound := none } := by
    simp [State.ceaseFollow_seq, State.unbind, ha]
  rw [State.beginStop]
  simp only [hactive]

theorem State.homingOk_of_notRunning {s : State} (h : s.station ≠ .running) : s.homingOk = true := by
  simp [State.homingOk, State.homingRuns, h]

theorem State.homingOk_of_otherKind {s : State} (h : s.activeKind ≠ some .home) :
    s.homingOk = true := by
  simp [State.homingOk, State.homingRuns, h]

theorem State.homingOk_iff (s : State) : s.homingOk = true ↔
    (s.activeKind = some .home → s.station = .running → s.homing.phase ≠ .none ∧
      (s.homing.phase = .seek → s.gen.run ≠ none → s.gen.dir = s.homing.dir)) := by
  unfold State.homingOk State.homingRuns
  simp only [Bool.or_eq_true, Bool.not_eq_true', Bool.and_eq_false_iff, decide_eq_false_iff_not,
    Bool.and_eq_true, decide_eq_true_eq, Option.isNone_iff_eq_none]
  tauto

theorem State.steppingToward_iff (s : State) (d : Side) : s.steppingToward d = true ↔
    (s.station = .running ∨ s.station = .stopping) ∧ s.gen.phase ≠ .standstill ∧ s.gen.dir = d := by
  simp [State.steppingToward, and_assoc]

/-- What has a run that points at no active limit respects the limits. -/
theorem State.limitsRespected_of_dir {s : State} (h : s.limitActive s.gen.dir = false) :
    s.limitsRespected := by
  intro d hd
  obtain ⟨-, -, rfl⟩ := (s.steppingToward_iff d).1 hd
  exact h

namespace Moves

variable {l h : Prop} {s : State}

/-- A station whose generator stands still. -/
theorem of_stands (hrec : s.recordOk) (hgen : s.gen.stands) (hfollow : s.followOk)
    (hhome : h → s.homingOk = true) : Moves l h s where
  record := hrec
  gen := ⟨⟨fun _ => hgen.2.1, fun _ => hgen.1⟩, fun _ => hgen.2.2⟩
  motion := fun hr => by simp [hgen.2.1] at hr
  follow := hfollow
  limits := fun _ d hd => absurd hgen.1 ((s.steppingToward_iff d).1 hd).2.1
  homing := hhome

/-- A station whose record has ended. -/
theorem of_noRecord (hrec : s.seq.active = none) (hstation : s.seq.station.working = false)
    (hgen : s.gen.stands) (hfollow : s.follow.phase = .none) : Moves l h s :=
  of_stands (by simp [State.recordOk, State.station, hrec, hstation]) hgen (fun hf => absurd hfollow hf)
    fun _ => State.homingOk_of_otherKind (by simp [State.activeKind, hrec])

/-- A generator that moves has been ordered to by a running or stopping record. -/
theorem stands_of_station (hm : Moves l h s) (hr : s.station ≠ .running) (hs : s.station ≠ .stopping) :
    s.gen.stands := by
  have hrun : s.gen.run = none := by
    by_contra hne
    rcases hm.motion (Option.isSome_iff_ne_none.2 hne) with h | h
    · exact hr h
    · exact hs h
  exact ⟨hm.gen.1.2 hrun, hrun, hm.gen.2 hrun⟩

/-- Without a record neither the limits nor a homing are in question. -/
theorem full_of_station (hm : Moves l h s) (hr : s.station ≠ .running) (hs : s.station ≠ .stopping)
    {l' h' : Prop} : Moves l' h' s :=
  of_stands hm.record (hm.stands_of_station hr hs) hm.follow
    fun _ => State.homingOk_of_notRunning hr

theorem active_of_working (hm : Moves l h s) (hs : s.station.working = true) :
    ∃ a, s.seq.active = some a := by
  have hrec : s.seq.active.isSome = s.station.working := hm.record
  exact Option.isSome_iff_exists.1 (hrec.trans hs)

/-- What leaves the station state, the record, the generator, homing, following and the limits leaves the
invariant. -/
theorem of_same {t : State} (hm : Moves l h s) (hstation : t.station = s.station)
    (hactive : t.seq.active = s.seq.active) (hgen : t.gen = s.gen) (hhoming : t.homing = s.homing)
    (hfollow : t.follow = s.follow) (hlim : ∀ d, t.limitActive d = s.limitActive d) : Moves l h t := by
  obtain ⟨hrec, hg, hmot, hf, hl, hh⟩ := hm
  have hkind : t.activeKind = s.activeKind := by simp [State.activeKind, hactive]
  refine ⟨?_, ?_, ?_, ?_, fun hl' d hd => ?_, fun hh' => ?_⟩
  · rw [State.recordOk, hstation, hactive]; exact hrec
  · rw [State.genOk, hgen]; exact hg
  · rw [State.motionOk, hstation, hgen]; exact hmot
  · rw [State.followOk, hkind, hfollow]; exact hf
  · rw [hlim]
    refine hl hl' d ?_
    rw [State.steppingToward_iff] at hd ⊢
    rwa [hstation, hgen] at hd
  · rw [State.homingOk_iff] at hh ⊢
    rw [hkind, hstation, hhoming, hgen]
    exact hh hh'

/-- A changed generator whose run and direction are those before. -/
theorem setGen_same (hm : Moves l h s) {g : Gen} (hdir : g.dir = s.gen.dir)
    (hphase : g.phase = .standstill ↔ s.gen.phase = .standstill) (hrun : g.run = none ↔ s.gen.run = none)
    (hrate : g.run = none → g.rate = s.gen.rate) : Moves l h (s.setGen g) where
  record := hm.record
  gen := ⟨hphase.trans (hm.gen.1.trans hrun.symm),
    fun hr => (hrate hr).trans (hm.gen.2 (hrun.1 hr))⟩
  motion := fun hr => hm.motion (by
    rw [Option.isSome_iff_ne_none] at hr ⊢
    exact fun e => hr (hrun.2 e))
  follow := hm.follow
  limits := fun hl d hd => by
    rw [State.steppingToward_iff] at hd
    exact hm.limits hl d ((s.steppingToward_iff d).2 ⟨hd.1, fun e => hd.2.1 (hphase.2 e), hdir ▸ hd.2.2⟩)
  homing := fun hh => by
    have := hm.homing hh
    rw [State.homingOk_iff] at this ⊢
    refine fun hk hs => ⟨(this hk hs).1, fun hp hr => ?_⟩
    exact hdir.trans ((this hk hs).2 hp fun e => hr (hrun.2 e))

/-- The generator ceases. -/
theorem cease (hm : Moves l h s) {l' : Prop} : Moves l' h (s.setGen s.gen.ceased) :=
  of_stands hm.record s.gen.ceased_stands hm.follow fun hh => by
    have := hm.homing hh
    rw [State.homingOk_iff] at this ⊢
    exact fun hk hs => ⟨(this hk hs).1, fun _ hr => absurd rfl hr⟩

/-- A run ordered of a running record toward a limit that is not active, whatever the generator did
before. -/
theorem of_run {g : Gen} (hrec : s.recordOk) (hfollow : s.followOk) (hs : s.station = .running)
    (hphase : g.phase ≠ .standstill) (hrun : g.run ≠ none) (hlim : s.limitActive g.dir = false)
    (hhome : h → s.activeKind = some .home → s.homing.phase ≠ .none ∧
      (s.homing.phase = .seek → g.dir = s.homing.dir)) : Moves l h (s.setGen g) where
  record := hrec
  gen := ⟨⟨fun e => absurd e hphase, fun e => absurd e hrun⟩, fun e => absurd e hrun⟩
  motion := fun _ => .inl hs
  follow := hfollow
  limits := fun _ => State.limitsRespected_of_dir hlim
  homing := fun hh => (State.homingOk_iff _).2 fun hk _ =>
    ⟨(hhome hh hk).1, fun hp _ => (hhome hh hk).2 hp⟩

/-- A run ordered of a running record toward a limit that is not active. -/
theorem setRun (hm : Moves l h s) {g : Gen} {l' h' : Prop} (hs : s.station = .running)
    (hphase : g.phase ≠ .standstill) (hrun : g.run ≠ none) (hlim : s.limitActive g.dir = false)
    (hhome : h' → s.activeKind = some .home → s.homing.phase ≠ .none ∧
      (s.homing.phase = .seek → g.dir = s.homing.dir)) : Moves l' h' (s.setGen g) :=
  of_run hm.record hm.follow hs hphase hrun hlim hhome

/-- A write to the Homing Controller that keeps the phase and the direction. -/
theorem setHoming_same (hm : Moves l h s) {x : Homing} (hp : x.phase = s.homing.phase)
    (hd : x.dir = s.homing.dir) : Moves l h (s.setHoming x) :=
  ⟨hm.record, hm.gen, hm.motion, hm.follow, hm.limits, fun hh => by
    have := hm.homing hh
    rw [State.homingOk_iff] at this ⊢
    intro hk hs
    exact ⟨hp ▸ (this hk hs).1, fun hseek hr => ((this hk hs).2 (hp ▸ hseek) hr).trans hd.symm⟩⟩

/-- Any write to the Homing Controller leaves all but the phase. -/
theorem setHoming (hm : Moves l h s) {x : Homing} : Moves l False (s.setHoming x) :=
  ⟨hm.record, hm.gen, hm.motion, hm.follow, hm.limits, False.elim⟩

/-- A write to the Follow Unit that keeps the phase, or holds one for an active FOLLOW. -/
theorem setFollow (hm : Moves l h s) {f : Follow}
    (hf : f.phase = s.follow.phase ∨ f.phase = .none ∨ s.activeKind = some .follow) :
    Moves l h (s.setFollow f) :=
  ⟨hm.record, hm.gen, hm.motion, fun hp => by
    rcases hf with e | e | e
    · exact hm.follow (e ▸ hp)
    · exact absurd e hp
    · exact e, hm.limits, hm.homing⟩

/-- A write to the active record that keeps its work. -/
theorem setActive (hm : Moves l h s) {x : Option Active}
    (hx : x.map Active.work = s.seq.active.map Active.work) : Moves l h (s.setActive x) := by
  have hkind : (s.setActive x).activeKind = s.activeKind := by
    have := congrArg (Option.map Work.kind) hx
    simpa [State.activeKind, Function.comp_def] using this
  have hsome : x.isSome = s.seq.active.isSome := by
    have := congrArg Option.isSome hx
    simpa using this
  refine ⟨?_, hm.gen, hm.motion, fun hp => hkind.trans (hm.follow hp), hm.limits, fun hh => ?_⟩
  · exact hsome.trans hm.record
  · have := hm.homing hh
    rw [State.homingOk_iff] at this ⊢
    rwa [hkind]

/-- A change of the active record that keeps its work. -/
theorem mapActive (hm : Moves l h s) {f : Active → Active} (hf : ∀ a, (f a).work = a.work) :
    Moves l h (s.setActive (s.seq.active.map f)) :=
  hm.setActive (by simp [Function.comp_def, hf])

/-! ### The end of a record -/

/-- A record that ends leaves nothing that moves. -/
theorem endRecord (hm : Moves l h s) {r : Result} : Moves l h (s.endRecord r) := by
  cases ha : s.seq.active with
  | none => rwa [s.endRecord_none r ha]
  | some a =>
    rw [s.endRecord_some r a ha]
    exact of_noRecord rfl (by cases r <;> rfl) s.gen.ceased_stands rfl

theorem endRecord_some {r : Result} {a : Active} (ha : s.seq.active = some a) :
    Moves l h (s.endRecord r) := by
  rw [s.endRecord_some r a ha]
  exact of_noRecord rfl (by cases r <;> rfl) s.gen.ceased_stands rfl

theorem pushResidual {r : Residual} : Moves l h (s.pushResidual r) := by
  rw [s.pushResidual_eq]
  exact of_noRecord rfl rfl s.gen.ceased_stands rfl

theorem discardResidual_some {r : Result} {a : Active} (ha : s.seq.active = some a) :
    Moves l h (s.discardResidual r) := endRecord_some (s := s.setStack _) ha

/-- A record under a stop, or ended by a fault, is over at its standstill. -/
theorem reachStandstill_of_stopped {a : Active} (ha : s.seq.active = some a)
    (hd : a.faultEnded = true ∨ a.disposition ≠ none) : Moves l h s.reachStandstill := by
  rw [State.reachStandstill, ha]
  simp only
  split
  · exact endRecord_some ha
  · split
    · rename_i hf _ _ hnone
      exact absurd hnone (hd.resolve_left hf)
    · exact endRecord_some ha
    · exact pushResidual
    · exact endRecord_some ha
    · split
      · exact pushResidual
      · exact discardResidual_some ha
    · exact endRecord_some ha
    · split
      · exact pushResidual
      · exact discardResidual_some ha
    · exact endRecord_some ha

theorem reachStandstill (hm : Moves l h s) {l' : Prop} : Moves l' h s.reachStandstill := by
  cases ha : s.seq.active with
  | none => rw [State.reachStandstill, ha]; exact hm.cease
  | some a =>
    by_cases hd : a.faultEnded = true ∨ a.disposition ≠ none
    · exact reachStandstill_of_stopped ha hd
    · obtain ⟨hf, hnone⟩ := not_or.1 hd
      rw [State.reachStandstill, ha]
      simp only [hf, not_not.1 hnone]
      exact hm.cease

/-! ### Stops -/

theorem unbind (hm : Moves l h s) : Moves l h s.unbind := by
  have hqueue : Moves l h (s.setQueue s.queue.unbound) :=
    hm.of_same rfl rfl rfl rfl rfl fun d => by cases d <;> rfl
  exact hqueue.mapActive (f := fun a => { a with bound := none }) fun _ => rfl

theorem ceaseFollow (hm : Moves l h s) : Moves l h s.ceaseFollow := by
  unfold State.ceaseFollow
  split
  case isTrue ht => exact hm.setFollow (.inr (.inr (hm.follow (by simp [ht]))))
  case isFalse => exact hm

/-- A decelerating stop of a run in motion goes on in its direction. -/
theorem brakes (hm : Moves l h s) (hl : l) (hs : s.station = .running)
    (hg : s.gen.stopsAtOnce = false) {l' h' : Prop} :
    Moves l' h' ((s.setGen s.gen.brake).setStation .stopping) := by
  obtain ⟨hphase, hrun⟩ := Gen.moves_of_not_stopsAtOnce hg
  obtain ⟨a, ha⟩ := hm.active_of_working (by rw [hs]; rfl)
  refine ⟨by simp [State.recordOk, State.station, ha, State.setStation, Station.working], ?_,
    fun _ => .inr rfl, hm.follow, fun _ => ?_, fun _ => State.homingOk_of_notRunning (by simp)⟩
  · exact ⟨⟨fun e => absurd e (s.gen.brake_moves hphase hrun).1,
      fun e => absurd e (s.gen.brake_moves hphase hrun).2⟩,
      fun e => absurd e (s.gen.brake_moves hphase hrun).2⟩
  · refine State.limitsRespected_of_dir ?_
    have := hm.limits hl s.gen.dir ((s.steppingToward_iff _).2 ⟨.inl hs, hphase, rfl⟩)
    rw [← s.gen.brake_dir] at this
    exact this

/-- A stop that a record carries ends it, or brakes it in the direction in which it runs. -/
theorem stopMotion (hm : Moves l h s) {a : Active} {immediate : Bool}
    (hl : immediate = true ∨ s.gen.run = none ∨ l) (hs : s.station = .running)
    (ha : s.seq.active = some a) (hd : a.disposition ≠ none) {l' h' : Prop} :
    Moves l' h' (s.stopMotion immediate) := by
  unfold State.stopMotion
  split
  case isTrue => exact reachStandstill_of_stopped ha (.inr hd)
  case isFalse hmoves =>
    simp only [Bool.or_eq_true, not_or, Bool.not_eq_true] at hmoves
    have hl : l := by
      rcases hl with h | h | h
      · exact absurd h (by simp [hmoves.1.1])
      · exact absurd h (Gen.moves_of_not_stopsAtOnce hmoves.2).2
      · exact h
    exact hm.brakes hl hs hmoves.2

/-- A stop ends a running record, or brakes it in the direction in which it runs. -/
theorem beginStop (hm : Moves l h s) {d : Disposition} {immediate faultEnded : Bool}
    (hl : immediate = true ∨ l) (hs : s.station = .running) {l' h' : Prop} :
    Moves l' h' (s.beginStop d immediate faultEnded) := by
  obtain ⟨a, ha⟩ := hm.active_of_working (by rw [hs]; rfl)
  rw [s.beginStop_eq d immediate faultEnded a ha]
  have hactive : s.unbind.ceaseFollow.seq.active = some { a with bound := none } := by
    simp [State.ceaseFollow_seq, State.unbind, ha]
  have hrunning : s.unbind.ceaseFollow.station = .running := by
    rw [State.station, State.ceaseFollow_seq]; exact hs
  have hstopped : Moves l h (s.unbind.ceaseFollow.setActive (some { a with
      disposition := some d, faultEnded := faultEnded, reserved := decide (d = .preempt),
      bound := none })) := hm.unbind.ceaseFollow.setActive (by simp [hactive])
  exact hstopped.stopMotion (hl.imp_right .inr) hrunning rfl (by simp)

/-- A stop that finds no run ends the record (R66). -/
theorem beginStop_of_noRun {d : Disposition} {immediate faultEnded : Bool} {a : Active}
    (ha : s.seq.active = some a) (hrun : s.gen.run = none) :
    Moves l h (s.beginStop d immediate faultEnded) := by
  rw [s.beginStop_eq d immediate faultEnded a ha, State.stopMotion, if_pos]
  · exact reachStandstill_of_stopped rfl (.inr (by simp))
  · have hgen : s.unbind.ceaseFollow.gen = s.gen := by
      unfold State.ceaseFollow
      split <;> rfl
    simp [hgen, Gen.stopsAtOnce_of_noRun hrun]

theorem stopForHalt (hm : Moves True h s) (hs : s.station = .running) {l' h' : Prop} :
    Moves l' h' s.stopForHalt := hm.beginStop (.inr trivial) hs

/-! ### Faults -/

/-- Before a fault reaches the sequencer it writes nothing that moves. -/
theorem logged (hm : Moves l h s) {k : FaultKind} {tag : Option Tag} :
    Moves l h ((s.logFault k tag).raiseInvolved .fault s.own) :=
  hm.of_same rfl rfl rfl rfl rfl fun d => by cases d <;> rfl

theorem clearHomedFor (hm : Moves l h s) {k : FaultKind} : Moves l h (s.clearHomedFor k) := by
  unfold State.clearHomedFor
  split
  · exact hm.of_same rfl rfl rfl rfl rfl fun d => by cases d <;> rfl
  · exact hm

theorem pulseFor (hm : Moves l h s) {k : FaultKind} : Moves l h (s.pulseFor k) := by
  unfold State.pulseFor State.startPulse
  split
  · split
    · exact hm.of_same rfl rfl rfl rfl rfl fun d => by cases d <;> rfl
    · exact hm
  · exact hm

/-- A station without a record that changes its state to another such. -/
theorem setStation (hm : Moves l h s) {x : Station} (hs : s.station.working = false)
    (hx : x.working = false) {l' h' : Prop} : Moves l' h' (s.setStation x) := by
  have hstands : s.gen.stands := hm.stands_of_station (fun e => by simp [e, Station.working] at hs)
    fun e => by simp [e, Station.working] at hs
  have hnone : s.seq.active = none := by
    have hrec : s.seq.active.isSome = s.station.working := hm.record
    simpa [hs] using hrec
  refine of_noRecord hnone hx hstands ?_
  by_contra hp
  have := hm.follow hp
  simp [State.activeKind, hnone] at this

theorem faultWhileStopping (hm : Moves l h s) {immediate : Bool} (hl : immediate = true ∨ l)
    (hs : s.station = .stopping) {l' h' : Prop} : Moves l' h' (s.faultWhileStopping immediate) := by
  obtain ⟨a, ha⟩ := hm.active_of_working (by rw [hs]; rfl)
  have hmarked := (hm.mapActive (f := fun a => { a with faultEnded := true, reserved := false })
    fun _ => rfl).ceaseFollow
  rw [State.faultWhileStopping]
  split
  · refine reachStandstill_of_stopped (a := { a with faultEnded := true, reserved := false }) ?_
      (.inl rfl)
    simp [State.ceaseFollow_seq, ha]
  · refine ⟨hmarked.record, hmarked.gen, hmarked.motion, hmarked.follow,
      fun _ => hmarked.limits (hl.resolve_left (by assumption)),
      fun _ => State.homingOk_of_notRunning ?_⟩
    rw [State.station, State.ceaseFollow_seq, State.setActive_seq]
    exact fun e => by simp [show s.seq.station = .stopping from hs] at e

/-- The sequencer acts on a fault: whatever moves is stopped, at once by an immediate kind (R49). -/
theorem faultStation (hm : Moves l h s) {immediate : Bool} (hl : immediate = true ∨ l)
    {l' h' : Prop} : Moves l' h' (s.faultStation immediate) := by
  unfold State.faultStation
  split
  case h_1 hs => exact hm.full_of_station (by simp [hs]) (by simp [hs])
  case h_2 hs => exact hm.setStation (by rw [hs]; rfl) rfl
  case h_3 hs => exact hm.setStation (by rw [hs]; rfl) rfl
  case h_4 hs =>
    have hbarrier : Moves l h (s.setBarrier none) :=
      hm.of_same rfl rfl rfl rfl rfl fun d => by cases d <;> rfl
    exact hbarrier.setStation (by rw [s.setBarrier_station, hs]; rfl) rfl
  case h_5 hs => exact hm.beginStop hl hs
  case h_6 hs => exact hm.faultWhileStopping hl hs
  case h_7 hs =>
    obtain ⟨a, ha⟩ := hm.active_of_working (by rw [hs]; rfl)
    exact endRecord_some ha
  case h_8 hs => exact hm.full_of_station (by simp [hs]) (by simp [hs])

/-- A fault leaves the whole invariant: an immediate kind ends what might step toward a limit. -/
theorem recordFault (hm : Moves l h s) {k : FaultKind} {tag : Option Tag}
    (hl : k.immediate = true ∨ l) {l' h' : Prop} : Moves l' h' (s.recordFault k tag) := by
  by_cases hs : s.station = .offline
  · rw [s.recordFault_offline k tag hs]
    exact hm.full_of_station (by simp [hs]) (by simp [hs])
  · rw [s.recordFault_online k tag hs]
    exact ((hm.logged.faultStation hl).clearHomedFor).pulseFor

theorem faultOfActive (hm : Moves l h s) {k : FaultKind} (hl : k.immediate = true ∨ l)
    {l' h' : Prop} : Moves l' h' (s.faultOfActive k) := hm.recordFault hl

/-- A fault of a running record that has no run ends it. -/
theorem recordFault_of_noRun {k : FaultKind} {tag : Option Tag} {a : Active}
    (ha : s.seq.active = some a) (hs : s.station = .running) (hrun : s.gen.run = none) :
    Moves l h (s.recordFault k tag) := by
  rw [s.recordFault_online k tag (by simp [hs]), State.faultStation]
  have hstation : ((s.logFault k tag).raiseInvolved .fault s.own).station = .running := hs
  rw [hstation]
  exact ((beginStop_of_noRun (s := (s.logFault k tag).raiseInvolved .fault s.own) ha hrun).clearHomedFor).pulseFor

theorem checkFollowing (hm : Moves l h s) {before : State} :
    Moves l h (before.checkFollowing s) := by
  unfold State.checkFollowing
  split
  · exact hm.faultOfActive (.inl rfl)
  · exact hm

theorem levelTests (hm : Moves l h s) : Moves l h s.levelTests := by
  have hdrive : Moves l h (if s.drive.drvFlt then s.faultOfActive .driveFault else s) := by
    split
    · exact hm.faultOfActive (.inl rfl)
    · exact hm
  have herror : ∀ t, Moves l h t →
      Moves l h (if t.errorBeyond then t.faultOfActive .followingError else t) := by
    intro t ht
    split
    · exact ht.faultOfActive (.inl rfl)
    · exact ht
  exact herror _ hdrive

end Moves

end Sys2Proof.Machine

/-! ## Proofs: the motion invariant through emission, counting, homing and runs -/

namespace Sys2Proof.Machine

theorem Gen.schedule_same (g : Gen) : g.schedule.dir = g.dir ∧
    (g.schedule.phase = .standstill ↔ g.phase = .standstill) ∧
    (g.schedule.run = none ↔ g.run = none) ∧ g.schedule.rate = g.rate := by
  unfold Gen.schedule
  split
  · simp
  · split <;> try split
    all_goals simp_all

theorem Gen.emit_same (g : Gen) (hg : g.phase = .standstill ↔ g.run = none) : g.emit.dir = g.dir ∧
    (g.emit.phase = .standstill ↔ g.phase = .standstill) ∧ (g.emit.run = none ↔ g.run = none) ∧
    (g.emit.run = none → g.emit.rate = g.rate) := by
  unfold Gen.emit
  split
  · simp
  · rename_i r hr
    have hphase : g.phase ≠ .standstill := fun e => by simp [hr] at hg; exact hg e
    split <;> simp_all

@[simp] theorem State.setHoming_limitActive (s : State) (x : Homing) (d : Side) :
    (s.setHoming x).limitActive d = s.limitActive d := by cases d <;> rfl

@[simp] theorem State.setPhase_limitActive (s : State) (p : HomingPhase) (d : Side) :
    (s.setPhase p).limitActive d = s.limitActive d := s.setHoming_limitActive _ d

@[simp] theorem State.setPhase_homing_dir (s : State) (p : HomingPhase) :
    (s.setPhase p).homing.dir = s.homing.dir := rfl

namespace Moves

variable {l h : Prop} {s : State}

/-- A changed generator that goes on in the direction of the run before. -/
theorem setGen_moving (hm : Moves l h s) {g : Gen} (hs : s.gen.run ≠ none) (hdir : g.dir = s.gen.dir)
    (hphase : g.phase ≠ .standstill) (hrun : g.run ≠ none) : Moves l h (s.setGen g) :=
  hm.setGen_same hdir (iff_of_false hphase fun e => hs (hm.gen.1.1 e)) (iff_of_false hrun hs)
    fun e => absurd e hrun

/-- Without a record nothing moves. -/
theorem full_of_noRecord (hm : Moves l h s) (ha : s.seq.active = none) {l' h' : Prop} :
    Moves l' h' s := by
  have hrec : s.seq.active.isSome = s.station.working := hm.record
  rw [ha] at hrec
  exact hm.full_of_station (fun e => by simp [e, Station.working] at hrec)
    fun e => by simp [e, Station.working] at hrec

/-- A record that is no HOME leaves no homing in question. -/
theorem home_of_kind (hm : Moves l h s) (hk : s.activeKind ≠ some .home) {h' : Prop} : Moves l h' s :=
  ⟨hm.record, hm.gen, hm.motion, hm.follow, hm.limits, fun _ => State.homingOk_of_otherKind hk⟩

theorem setEncoder (hm : Moves l h s) {e : Encoder} : Moves l h (s.setEncoder e) :=
  hm.of_same rfl rfl rfl rfl rfl fun d => by cases d <;> rfl

theorem setBarrier (hm : Moves l h s) {b : Option BarrierRec} : Moves l h (s.setBarrier b) :=
  hm.of_same rfl rfl rfl rfl rfl fun d => by cases d <;> rfl

theorem setQueue (hm : Moves l h s) {q : SegQueue} : Moves l h (s.setQueue q) :=
  hm.of_same rfl rfl rfl rfl rfl fun d => by cases d <;> rfl

theorem setStack (hm : Moves l h s) {x : Suspension} : Moves l h (s.setStack x) :=
  hm.of_same rfl rfl rfl rfl rfl fun d => by cases d <;> rfl

theorem setGroups (hm : Moves l h s) {x : List GroupEntry} : Moves l h (s.setGroups x) :=
  hm.of_same rfl rfl rfl rfl rfl fun d => by cases d <;> rfl

theorem setLink (hm : Moves l h s) {x : Link} : Moves l h (s.setLink x) :=
  hm.of_same rfl rfl rfl rfl rfl fun d => by cases d <;> rfl

theorem setPeers (hm : Moves l h s) {x : List PeerEntry} : Moves l h (s.setPeers x) :=
  hm.of_same rfl rfl rfl rfl rfl fun d => by cases d <;> rfl

theorem setFaults (hm : Moves l h s) {x : FaultLog} : Moves l h (s.setFaults x) :=
  hm.of_same rfl rfl rfl rfl rfl fun d => by cases d <;> rfl

/-- A write to the sequencer that keeps the station state and the record. -/
theorem setSeq (hm : Moves l h s) {q : Sequencer} (hs : q.station = s.seq.station)
    (ha : q.active = s.seq.active) : Moves l h (s.setSeq q) :=
  hm.of_same hs ha rfl rfl rfl fun d => by cases d <;> rfl

/-- A write to the drive that keeps the limits. -/
theorem setDrive (hm : Moves l h s) {x : Drive} (hp : x.limPos = s.drive.limPos)
    (hn : x.limNeg = s.drive.limNeg) : Moves l h (s.setDrive x) :=
  hm.of_same rfl rfl rfl rfl rfl fun d => by
    cases d
    · exact hp
    · exact hn

/-! ### One step -/

theorem homingStep (hm : Moves l h s) : Moves l h s.homingStep := hm.setHoming_same rfl rfl

theorem followStep (hm : Moves l h s) (hrun : s.gen.run ≠ none) : Moves l h s.followStep := by
  have ht : Moves l h (s.setFollow (s.follow.stepped s.gen.dir)) := hm.setFollow (.inl rfl)
  rw [State.followStep]
  split
  · exact ht.setGen_moving hrun rfl (by simp [Gen.orderFlat]) (by simp [Gen.orderFlat])
  · exact ht

theorem reportStep (hm : Moves l h s) (hrun : s.gen.run ≠ none) : Moves l h s.reportStep := by
  unfold State.reportStep
  split
  · exact hm.homingStep
  · exact hm.followStep hrun
  all_goals exact hm

theorem emitStep (hm : Moves l h s) : Moves l h s.emitStep := by
  obtain ⟨hdir, hphase, hrun, hrate⟩ := s.gen.emit_same hm.gen.1
  have ht : Moves l h (s.checkFollowing (s.setGen s.gen.emit)) :=
    (hm.setGen_same hdir hphase hrun hrate).checkFollowing
  rw [State.emitStep]
  split
  · exact hm.faultOfActive (.inl rfl)
  · dsimp only
    split
    · exact ht.reportStep (Option.isSome_iff_ne_none.1 ‹_›)
    · exact ht

theorem scheduleNext (hm : Moves l h s) : Moves l h s.scheduleNext := by
  obtain ⟨hdir, hphase, hrun, hrate⟩ := s.gen.schedule_same
  exact hm.setGen_same hdir hphase hrun fun _ => hrate

theorem firstStep (hm : Moves l h s) : Moves l h s.firstStep := hm.emitStep.scheduleNext

/-! ### Counting -/

theorem settleTest (hm : Moves l h s) : Moves l h s.settleTest := by
  unfold State.settleTest
  split
  · exact hm.endRecord
  · exact hm

theorem countEdge (hm : Moves l h s) {d : Side} : Moves l h (s.countEdge d) := by
  rw [State.countEdge]
  split
  · exact hm.setEncoder
  · exact hm.setEncoder.checkFollowing.settleTest

theorem countEdges (hm : Moves l h s) {ds : List Side} : Moves l h (s.countEdges ds) := by
  induction ds generalizing s with
  | nil => exact hm
  | cons d ds ih => exact ih hm.countEdge

theorem takePair (hm : Moves l h s) {a b : Bool} : Moves l h (s.takePair a b) :=
  (hm.setDrive (x := { s.drive with encA := a, encB := b }) rfl rfl).setEncoder

theorem pairChange (hm : Moves l h s) {a b : Bool} : Moves l h (s.pairChange a b) := by
  rw [State.pairChange]
  split
  · exact hm.takePair.countEdges.faultOfActive (.inl rfl)
  · exact hm.takePair.countEdges

theorem pairBecomes (hm : Moves l h s) {p : Bool × Bool} : Moves l h (s.pairBecomes p) := by
  unfold State.pairBecomes
  split
  · exact hm
  · exact hm.pairChange

theorem comeToRest (hm : Moves l h s) : Moves l h s.comeToRest := by
  have hfold : ∀ (ps : List (Bool × Bool)) {u : State}, Moves l h u →
      Moves l h (ps.foldl State.pairBecomes u) := by
    intro ps
    induction ps with
    | nil => exact id
    | cons p ps ih => exact fun hu => ih hu.pairBecomes
  exact hfold _ (hm.of_same rfl rfl rfl rfl rfl fun d => by cases d <;> rfl)

/-! ### Completing -/

theorem enterSettling (hm : Moves l h s) (ha : s.seq.active ≠ none) {l' h' : Prop} :
    Moves l' h' s.enterSettling := by
  obtain ⟨a, ha⟩ := Option.ne_none_iff_exists'.1 ha
  rw [State.enterSettling]
  refine settleTest (of_stands ?_ s.gen.ceased_stands (fun hf => ?_) fun _ =>
    State.homingOk_of_notRunning (by simp [State.station]))
  · simp [State.recordOk, State.station, ha, Station.working]
  · have := hm.follow hf
    simpa [State.activeKind, ha] using this

/-- Complete work leaves a record that settles, or none. -/
theorem completeWork (hm : Moves l h s) {l' h' : Prop} : Moves l' h' s.completeWork := by
  unfold State.completeWork
  split
  case h_1 ha => exact hm.full_of_noRecord ha
  case h_2 a ha =>
    split
    · exact endRecord_some ha
    · split
      · exact hm.enterSettling (by simp [ha])
      · exact endRecord_some ha

/-! ### Homing -/

theorem failHoming (hm : Moves l h s) {l' h' : Prop} : Moves l' h' s.failHoming :=
  hm.faultOfActive (.inl rfl)

/-- The run of a seek phase, ordered away from an active limit. -/
theorem seekRun (hm : Moves l h s) {d : Side} (hs : s.station = .running)
    (hlim : s.limitActive d = false) (hphase : s.homing.phase ≠ .none)
    (hseek : s.homing.phase = .seek → d = s.homing.dir) {l' h' : Prop} : Moves l' h' (s.seekRun d) :=
  (hm.setRun (g := s.gen.orderOpen s.cfg d s.activeProfile) hs (by simp [Gen.orderOpen])
    (by simp [Gen.orderOpen]) hlim fun _ _ => ⟨hphase, hseek⟩).firstStep

/-- The flat run in direction d, ordered away from an active limit. -/
theorem creepRun (hm : Moves l h s) (hs : s.station = .running)
    (hlim : s.limitActive s.homing.dir = false) (hphase : s.homing.phase ≠ .none) {l' h' : Prop} :
    Moves l' h' s.creepRun :=
  (hm.setRun (g := s.gen.orderFlat s.cfg s.homing.dir s.activeProfile s.activeProfile.fs none) hs
    (by simp [Gen.orderFlat]) (by simp [Gen.orderFlat]) hlim fun _ _ => ⟨hphase, fun _ => rfl⟩).firstStep

theorem enterAway (hm : Moves l h s) {p : HomingPhase} (hs : s.station = .running)
    (hnone : p ≠ .none) (hseek : p ≠ .seek) {l' h' : Prop} : Moves l' h' (s.enterAway p) := by
  rw [State.enterAway]
  split
  · exact (hm.setHoming (x := { s.homing with
      phase := p, leg := .moving, homeSeen := s.drive.home })).failHoming
  · rename_i hlim
    exact (hm.setHoming (x := { s.homing with
      phase := p, leg := .moving, homeSeen := s.drive.home })).seekRun hs
      (by simpa using hlim) hnone fun e => absurd e hseek

theorem enterSeek (hm : Moves l h s) (hs : s.station = .running) {l' h' : Prop} :
    Moves l' h' s.enterSeek := by
  unfold State.enterSeek
  split
  · exact hm.enterAway hs (by decide) (by decide)
  · rename_i hlim
    exact (hm.setHoming (x := { s.homing with phase := .seek, leg := .moving })).seekRun hs
      (by simpa using hlim) (by simp) fun _ => rfl

theorem writePositions (hm : Moves l h s) {p : Position} : Moves l h (s.writePositions p) :=
  (hm.setGen_same (g := { s.gen with position := p }) rfl Iff.rfl Iff.rfl fun _ => rfl).setEncoder

theorem completeHoming (hm : Moves l h s) {l' h' : Prop} : Moves l' h' s.completeHoming := by
  have hceased : Moves True h (s.setGen s.gen.ceased) := hm.cease
  have hwritten := hceased.writePositions (p := s.homing.offset)
  have hu := (hwritten.setSeq (q := { ((s.setGen s.gen.ceased).writePositions
    s.homing.offset).seq with homed := true }) rfl rfl).setHoming (x := .reset)
  rw [State.completeHoming]
  split
  · exact hu.comeToRest.completeWork
  · exact hu.completeWork

/-- A phase other than SEEK is entered. -/
theorem setPhase (hm : Moves l h s) {p : HomingPhase} (hnone : p ≠ .none) (hseek : p ≠ .seek)
    {h' : Prop} : Moves l h' (s.setPhase p) :=
  ⟨hm.record, hm.gen, hm.motion, hm.follow, hm.limits, fun _ =>
    (State.homingOk_iff _).2 fun _ _ => ⟨hnone, fun e => absurd e hseek⟩⟩

theorem enterIndexMoving (hm : Moves l h s) {h' : Prop} : Moves l h' s.enterIndexMoving := by
  rw [State.enterIndexMoving]
  split
  · exact (hm.setPhase (p := .index) (h' := True) (by decide) (by decide)).failHoming
  · exact hm.setPhase (by decide) (by decide)

theorem enterIndexStanding (hm : Moves l h s) (hs : s.station = .running) {l' h' : Prop} :
    Moves l' h' s.enterIndexStanding := by
  have ht : Moves l True (s.setPhase .index) := hm.setPhase (by decide) (by decide)
  rw [State.enterIndexStanding]
  split
  · exact ht.failHoming
  · rename_i hlim
    exact ht.creepRun hs (by simpa using hlim) (by simp [State.setPhase])

theorem enterApproach (hm : Moves l h s) (hs : s.station = .running) {l' h' : Prop} :
    Moves l' h' s.enterApproach := by
  have ht : Moves l True (s.setPhase .approach) := hm.setPhase (by decide) (by decide)
  rw [State.enterApproach]
  split
  · exact ht.failHoming
  · rename_i hlim
    split
    · split
      · exact ht.completeHoming
      · exact ht.enterIndexStanding hs
    · exact ht.creepRun hs (by simpa using hlim) (by simp [State.setPhase])

theorem phaseEnd (hm : Moves l h s) (hs : s.station = .running) {l' : Prop} :
    Moves l' h s.phaseEnd := by
  have ht : Moves l' h (s.setGen s.gen.ceased) := hm.cease
  rw [State.phaseEnd]
  split
  · exact ht.enterAway hs (by decide) (by decide)
  · exact ht.enterApproach hs
  · exact ht.enterApproach hs
  all_goals exact ht

theorem phaseBrake (hm : Moves l h s) (hs : s.station = .running) : Moves l h s.phaseBrake := by
  unfold State.phaseBrake
  split
  · exact hm.phaseEnd hs
  · rename_i hg
    obtain ⟨hphase, hrun⟩ := Gen.moves_of_not_stopsAtOnce (by simpa using hg)
    exact hm.setGen_moving hrun s.gen.brake_dir (s.gen.brake_moves hphase hrun).1
      (s.gen.brake_moves hphase hrun).2

theorem ending (hm : Moves l h s) : Moves l h s.ending := hm.setHoming_same rfl rfl

theorem clearance (hm : Moves l h s) (hs : s.station = .running) : Moves l h s.clearance := by
  unfold State.clearance
  split
  · exact hm.ending.phaseBrake hs
  · exact hm.ending.setGen_same rfl Iff.rfl (by simp [Gen.setCount, State.ending]) fun _ => rfl

theorem startHoming (hm : Moves l h s) (hs : s.station = .running) {d : Side} {n : Nat}
    {p : Position} {b : Option Nat} {l' h' : Prop} : Moves l' h' (s.startHoming d n p b) := by
  have ht := (hm.setSeq (q := { s.seq with homed := false }) rfl rfl).setHoming (x :=
    { phase := .none, leg := .moving, dir := d, homeSeen := false, indexRemaining := n,
      travelUsed := 0, travelLimit := b.getD maxDistance, offset := p })
  rw [State.startHoming]
  split
  · exact ht.enterAway hs (by decide) (by decide)
  · split
    · exact ht.enterAway hs (by decide) (by decide)
    · exact ht.enterSeek hs

theorem homeActive (hm : Moves l h s) (hs : s.station = .running) : Moves l h s.homeActive := by
  unfold State.homeActive
  split
  · exact hm.ending.phaseBrake hs
  · exact hm.setHoming_same rfl rfl
  · exact hm.setHoming_same rfl rfl
  · split
    · exact hm.completeHoming
    · exact hm.enterIndexMoving
  all_goals exact hm

theorem homeInactive (hm : Moves l h s) (hs : s.station = .running) : Moves l h s.homeInactive := by
  unfold State.homeInactive
  split
  · split
    · exact hm.clearance hs
    · exact hm
  · split
    · exact hm.clearance hs
    · exact hm
  all_goals exact hm

theorem countIndex (hm : Moves l h s) : Moves l h s.countIndex := by
  rw [State.countIndex]
  split
  · split
    · exact (hm.setHoming_same (x := { s.homing with
        indexRemaining := s.homing.indexRemaining - 1 }) rfl rfl).completeHoming
    · exact hm.setHoming_same rfl rfl
  · exact hm

end Moves

end Sys2Proof.Machine

/-! ## Proofs: the motion invariant through runs, starts and following -/

namespace Sys2Proof.Machine

/-- A work record that starts with a distance is a MOVE or GOTO, and with its checks passed the limit
toward its first step is not active (R34). -/
theorem State.limit_of_startFault_none (s : State) (w : Work) (hf : s.startFault w = none)
    (hd : s.distance w ≠ 0) : (w.kind = .move ∨ w.kind = .goto) ∧
      s.limitActive (sideOf (s.distance w)) = false := by
  have hcheck : s.limitCheck (s.distance w) = none → s.limitActive (sideOf (s.distance w)) = false := by
    intro h
    unfold State.limitCheck at h
    split at h
    case isTrue => cases h
    case isFalse hn => simpa [hd] using hn
  unfold State.startFault at hf
  split at hf
  case h_1 hk =>
    refine ⟨.inr hk, hcheck ?_⟩
    split at hf
    · cases hf
    · split at hf
      · cases hf
      · exact hf
  case h_2 hk => exact ⟨.inl hk, hcheck hf⟩
  all_goals
    rename_i hk
    refine absurd ?_ hd
    cases w with
    | segment e =>
      obtain ⟨tag, insert, chain, group, profile, barrier, body, bound⟩ := e
      cases body <;> simp_all [Work.kind, Body.kind, State.distance]
    | residual r =>
      obtain ⟨tag, group, barrier, profile, origin, part⟩ := r
      cases part <;> simp_all [Work.kind, Remaining.kind, State.distance]

/-- The commit point leaves the station state (R41). -/
theorem State.commitPoint_station (s : State) : s.commitPoint.station = s.station := by
  rw [State.commitPoint]
  split
  · rfl
  · split <;> rfl

theorem State.orderRun_station (s : State) (w : Work) (n : Int) (f : Nat) :
    (s.orderRun w n f).station = s.station := by
  rw [State.orderRun]
  split
  · exact State.commitPoint_station _
  · rfl

namespace Moves

variable {l h : Prop} {s : State}

/-! ### The commit point and the order of a run -/

theorem unwatched (hm : Moves l h s) : Moves l h (s.setGen s.gen.unwatched) :=
  hm.setGen_same rfl Iff.rfl (by simp [Gen.unwatched]) fun _ => rfl

theorem commitPoint (hm : Moves l h s) : Moves l h s.commitPoint := by
  rw [State.commitPoint]
  split
  · rename_i e _
    have hmarked : Moves l h ((s.setGen s.gen.unwatched).setQueue
        { s.queue with entries := markHead s.queue.entries }) := hm.unwatched.setQueue
    exact (hmarked.mapActive (f := fun a => { a with bound := some e }) fun _ => rfl).setGen_same
      rfl Iff.rfl (by simp [Gen.setEndRate, Gen.unwatched]) fun _ => rfl
  · split
    · exact hm.unwatched
    · exact hm.unwatched.setSeq rfl rfl

/-- A counted run is ordered for a running MOVE or GOTO. -/
theorem orderRun {w : Work} {n : Int} {f : Nat} (hrec : s.recordOk) (hfollow : s.followOk)
    (hs : s.station = .running) (hk : s.activeKind ≠ some .home)
    (hlim : s.limitActive (sideOf n) = false) : Moves l h (s.orderRun w n f) := by
  have ht : Moves l h (s.setGen (s.gen.orderCounted s.cfg n.natAbs (sideOf n) w.profile f w.chain)) := by
    refine of_run hrec hfollow hs ?_ (by simp [Gen.orderCounted]) hlim fun _ e => absurd e hk
    unfold Gen.orderCounted
    dsimp only
    split <;> simp
  rw [State.orderRun]
  split
  · exact ht.commitPoint
  · exact ht

/-! ### Forming a record -/

/-- A record formed while nothing moves, its homing yet to be started. -/
theorem formRecord {w : Work} (hgen : s.gen.stands) (hfollow : s.follow.phase = .none) :
    Moves l False (s.formRecord w) :=
  of_stands rfl hgen (fun hf => absurd hfollow hf) False.elim

theorem startChained {w : Work} {f : Nat} (hrun : s.gen.run = none) (hfollow : s.follow.phase = .none) :
    Moves l h (s.startChained w f) := by
  rw [State.startChained]
  split
  · exact recordFault_of_noRun (s := s.formRecord w) rfl rfl hrun
  · rename_i hfault
    have hf : (s.formRecord w).followOk := fun e => absurd hfollow e
    split
    · have hceased : Moves True False ((s.formRecord w).setGen (s.formRecord w).gen.ceased) :=
        of_stands rfl (Gen.ceased_stands _) hf False.elim
      exact hceased.completeWork
    · rename_i hd
      obtain ⟨hk, hlim⟩ := State.limit_of_startFault_none _ w hfault hd
      have hkind : (s.formRecord w).activeKind ≠ some .home := by
        rcases hk with hk | hk <;> simp [State.activeKind, State.formRecord, hk]
      have hu : ∀ {l h : Prop}, Moves l h
          ((s.formRecord w).orderRun w ((s.formRecord w).distance w) f) :=
        orderRun rfl hf rfl hkind hlim
      dsimp only
      split
      · refine (hu (h := True)).stopForHalt ?_
        rw [State.orderRun_station]
        rfl
      · exact hu

theorem handover (hm : Moves l h s) {a : Active} (ha : s.seq.active = some a) {f : Nat}
    {l' h' : Prop} : Moves l' h' (s.handover f) := by
  unfold State.handover
  split
  · exact hm.completeWork
  · rw [s.endRecord_some .done a ha]
    exact startChained rfl rfl

/-! ### The last step and standstill -/

theorem lastCounted (hm : Moves l h s) {a : Active} (ha : s.seq.active = some a) {r : Run}
    {l' h' : Prop} : Moves l' h' (s.lastCounted a r) := by
  unfold State.lastCounted
  split
  · exact hm.handover ha
  · exact (hm.cease (l' := True)).completeWork

theorem paymentEnd (hm : Moves l h s) {l' : Prop} : Moves l' h s.paymentEnd := by
  have ht : Moves l' h (s.setGen s.gen.ceased) := hm.cease
  rw [State.paymentEnd]
  split
  · exact (ht.setFollow (.inr (.inl rfl))).completeWork
  · exact ht.setFollow (.inl rfl)

theorem lastStep (hm : Moves l h s) {r : Run} : Moves l h (s.lastStep r) := by
  unfold State.lastStep
  split
  · exact hm.cease
  · rename_i a ha
    split
    · exact hm.lastCounted ha
    · exact hm.lastCounted ha
    · unfold State.lastClearance
      split
      · exact hm.phaseEnd ‹_›
      · exact hm.reachStandstill
    · unfold State.lastPayment
      split
      · exact hm.paymentEnd
      · exact hm.reachStandstill
    · exact hm.cease

theorem standstill (hm : Moves l h s) : Moves l h s.standstill := by
  unfold State.standstill
  split
  · rename_i hr
    simp only [State.homingRuns, Bool.and_eq_true, decide_eq_true_eq] at hr
    exact hm.phaseEnd hr.2
  · exact hm.reachStandstill

theorem afterStep (hm : Moves l h s) : Moves l h s.afterStep := by
  unfold State.afterStep
  split
  · exact hm
  · split
    · exact hm.lastStep
    · split
      · exact hm.standstill
      · split
        · exact hm.commitPoint.scheduleNext
        · exact hm.scheduleNext

theorem stepRun (hm : Moves l h s) : Moves l h s.stepRun := hm.emitStep.afterStep

/-! ### Starting from standstill -/

theorem startCounted (hm : Moves l False s) {w : Work} (hs : s.station = .running)
    (hk : s.activeKind = some w.kind) (hfault : s.startFault w = none) {h' : Prop} :
    Moves l h' (s.startCounted w) := by
  unfold State.startCounted
  split
  · exact hm.completeWork
  · rename_i hd
    obtain ⟨hkind, hlim⟩ := s.limit_of_startFault_none w hfault hd
    exact (orderRun hm.record hm.follow hs (by rcases hkind with e | e <;> simp [hk, e]) hlim).stepRun

theorem startDwell (hm : Moves l False s) (hk : s.activeKind = some .dwell) {n : Nat} {h' : Prop} :
    Moves l h' (s.startDwell n) :=
  (hm.home_of_kind (by simp [hk])).mapActive fun _ => rfl

theorem handWork (hm : Moves l False s) {w : Work} (hs : s.station = .running)
    (hk : s.activeKind = some w.kind) (hfault : s.startFault w = none) {h' : Prop} :
    Moves l h' (s.handWork w) := by
  cases w with
  | segment e =>
    obtain ⟨tag, insert, chain, group, profile, barrier, body, bound⟩ := e
    cases body with
    | move n => exact hm.startCounted hs hk hfault
    | goto p => exact hm.startCounted hs hk hfault
    | home d n p b => exact hm.startHoming hs
    | dwell n => exact hm.startDwell hk
    | follow a n d b =>
      exact (hm.home_of_kind (by simp [hk, Work.kind, Body.kind])).setFollow (.inr (.inr hk))
  | residual r =>
    obtain ⟨tag, group, barrier, profile, origin, part⟩ := r
    cases part with
    | move n => exact hm.startCounted hs hk hfault
    | goto p => exact hm.startCounted hs hk hfault
    | dwell n => exact hm.startDwell hk

/-- The Follow Unit holds no phase without a record. -/
theorem follow_none (hm : Moves l h s) (hs : s.station.working = false) : s.follow.phase = .none := by
  by_contra hp
  have hrec : s.seq.active.isSome = s.station.working := hm.record
  have hnone : s.seq.active = none := by simpa [hs] using hrec
  have := hm.follow hp
  simp [State.activeKind, hnone] at this

theorem takeCandidate (hm : Moves l h s) {src : Source} : Moves l h (s.takeCandidate src) := by
  cases src
  · exact hm.setQueue
  · exact hm.setStack

theorem startCandidate (hm : Moves l h s) {src : Source} {w : Work} (hs : s.station.working = false)
    {l' h' : Prop} : Moves l' h' (s.startCandidate src w) := by
  have hstands : s.gen.stands := hm.stands_of_station (fun e => by simp [e, Station.working] at hs)
    fun e => by simp [e, Station.working] at hs
  have hformed : Moves l' False ((s.takeCandidate src).formRecord w) := by
    refine formRecord ?_ ?_
    · cases src <;> exact hstands
    · cases src <;> exact hm.follow_none hs
  rw [State.startCandidate]
  split
  · exact recordFault_of_noRun rfl rfl (by cases src <;> exact hstands.2.1)
  · exact hformed.handWork rfl rfl ‹_›

/-! ### Following -/

theorem failFollow (hm : Moves l h s) (hk : s.activeKind = some .follow) {k : FaultKind}
    (hl : k.immediate = true ∨ l) {l' h' : Prop} : Moves l' h' (s.failFollow k) :=
  (hm.setFollow (.inr (.inr hk))).faultOfActive hl

theorem payFirst (hm : Moves l h s) : Moves l h s.payFirst := by
  rw [State.payFirst]
  split
  · exact hm.emitStep
  · split
    · exact hm.emitStep.paymentEnd
    · exact hm.emitStep.scheduleNext

theorem beginPayment (hm : Moves l h s) {d : Side} {rate : Nat} {turning : Option Nat}
    (hs : s.station = .running) (hk : s.activeKind = some .follow) :
    Moves l h (s.beginPayment d rate turning) := by
  unfold State.beginPayment
  split
  · exact hm.failFollow hk (.inl (by cases d <;> rfl))
  · rename_i hlim
    have hlim : (s.setFollow { s.follow with turning := turning }).limitActive d = false := by
      cases d <;> simpa [State.limitActive] using hlim
    refine payFirst (of_run hm.record (fun _ => hk) hs (by simp [Gen.orderFlat])
      (by simp [Gen.orderFlat]) hlim fun _ e => absurd (hk.symm.trans e) (by decide))

theorem pay (hm : Moves l h s) (hs : s.station = .running) (hk : s.activeKind = some .follow) :
    Moves l h s.pay := by
  rw [State.pay]
  split
  · split
    · exact hm
    · split
      · exact hm.beginPayment hs hk
      · exact hm.beginPayment hs hk
  · rename_i r hr
    split
    · exact hm.cease.setFollow (.inl rfl)
    · split
      · rename_i hdir
        exact hm.setGen_moving (by simp [hr]) hdir.symm (by simp [Gen.orderFlat])
          (by simp [Gen.orderFlat])
      · exact hm.beginPayment hs hk

theorem tracking_iff (s : State) : s.tracking = true ↔
    s.follow.phase = .tracking ∧ s.station = .running := by
  simp [State.tracking]

theorem convertLeader (hm : Moves l h s) (ht : s.tracking = true) {p : Position} :
    Moves l h (s.convertLeader p) := by
  obtain ⟨hphase, hs⟩ := (tracking_iff s).1 ht
  have hk : s.activeKind = some .follow := hm.follow (by simp [hphase])
  have hconv : Moves l h (s.setFollow (s.follow.convert p)) := hm.setFollow (.inl rfl)
  rw [State.convertLeader]
  split
  · exact hconv.failFollow hk (.inl rfl)
  · split
    · exact hconv
    · exact hconv.pay hs hk

theorem checkLeader (hm : Moves True h s) : Moves True h s.checkLeader := by
  unfold State.checkLeader
  split
  · rename_i hlost
    simp only [State.leaderLost, Bool.and_eq_true] at hlost
    obtain ⟨hphase, -⟩ := (tracking_iff s).1 hlost.1
    have hk : s.activeKind = some .follow := hm.follow (by simp [hphase])
    have hzero : Moves True h (s.setFollow { s.follow with remainder := 0 }) :=
      hm.setFollow (.inl rfl)
    exact hzero.failFollow hk (.inr trivial)
  · exact hm

end Moves

end Sys2Proof.Machine

/-! ## Proofs: the motion invariant through dispatch, agreements and every command (O57) -/

namespace Sys2Proof.Machine

/-- The motion invariant short of the record and the link. -/
abbrev State.moves (s : State) : Prop := Moves True True s

namespace Moves

variable {s : State}

theorem foldl {α : Type} {f : State → α → State} {l : List α} (hm : s.moves)
    (hf : ∀ u a, State.moves u → State.moves (f u a)) : State.moves (l.foldl f s) := by
  induction l generalizing s with
  | nil => exact hm
  | cons a l ih => exact ih (hf s a hm)

theorem refuse (hm : s.moves) {k : MsgKind} {t : Option Tag} {r : Reason} : (s.refuse k t r).moves :=
  hm.setQueue

/-! ### Barriers -/

theorem readMembers (hm : s.moves) : s.readMembers.moves := by
  rw [State.readMembers]
  split
  · exact hm
  · split
    · exact hm
    · dsimp only
      split
      · exact hm.recordFault (.inr trivial)
      · split
        · rw [State.computeStart]
          split
          · exact hm.recordFault (.inr trivial)
          · exact hm.setBarrier
        · exact hm

theorem setGroup (hm : s.moves) {g : Nat} {x : GroupEntry} : (s.setGroup g x).moves := by
  unfold State.setGroup
  split
  · exact hm
  · exact hm.setGroups

theorem raiseInTable (hm : s.moves) {g : Nat} {c : Cause} {o : Nat} : (s.raiseInTable g c o).moves :=
  hm.setGroup

theorem cancelArming (hm : s.moves) (hs : s.station = .armed) : s.cancelArming.moves :=
  (hm.setBarrier (b := none)).setStation (by rw [State.setBarrier_station, hs]; rfl) rfl

theorem arm (hm : s.moves) {g : Nat} {k : BarrierBlock} (hs : s.station.working = false) :
    (s.arm g k).moves := by
  have harmed : ((s.setBarrier (some (s.armedRecord g k))).setStation .armed).moves :=
    (setBarrier hm (b := some (s.armedRecord g k))).setStation hs rfl
  have hraised : ∀ (l : List Nat) (u : State), u.station = .armed →
      (l.foldl (fun u m => u.raiseInTable g .peerLost m) u).station = .armed := by
    intro l
    induction l with
    | nil => exact fun u hu => hu
    | cons m l ih =>
      refine fun u hu => ih _ ?_
      obtain ⟨gs, e⟩ := u.raiseInTable_eq g .peerLost m
      dsimp only
      rw [e]
      exact hu
  rw [State.arm]
  split
  · exact harmed.readMembers
  · exact (harmed.foldl fun _ _ hu => hu.raiseInTable).cancelArming (hraised _ _ rfl)

theorem rearmForEpoch (hm : s.moves) {b : BarrierRec} : (s.rearmForEpoch b).moves :=
  readMembers hm.setBarrier

theorem readStatusOf (hm : s.moves) {a : Nat} : (s.readStatusOf a).moves := by
  unfold State.readStatusOf
  split
  · exact hm
  · split
    · exact readMembers hm.setBarrier
    · exact hm

theorem checkWait (hm : s.moves) : s.checkWait.moves := by
  unfold State.checkWait
  split
  · exact hm.recordFault (.inr trivial)
  · exact hm

theorem countWait (hm : s.moves) : s.countWait.moves := by
  unfold State.countWait
  split
  · exact hm
  · split
    · exact hm.setBarrier
    · exact hm

/-! ### Dispatch -/

theorem dispatchOnce (hm : s.moves) (hs : s.station.working = false) : s.dispatchOnce.moves := by
  unfold State.dispatchOnce
  split
  · exact hm.setStation hs rfl
  · split
    · exact hm.setStation hs rfl
    · exact hm.setStation hs rfl
    · exact hm.arm hs
    · exact hm.startCandidate hs

theorem dispatchRounds (hm : s.moves) (hs : s.station.working = false) {n : Nat} :
    (State.dispatchRounds n s).moves := by
  induction n generalizing s with
  | zero => exact hm
  | succ n ih =>
    unfold State.dispatchRounds
    split
    · rename_i hagain
      simp only [Bool.and_eq_true, decide_eq_true_eq] at hagain
      exact ih (hm.dispatchOnce hs) (by rw [hagain.2]; rfl)
    · exact hm.dispatchOnce hs

theorem dispatch (hm : s.moves) : s.dispatch.moves := by
  unfold State.dispatch
  split
  · rename_i hs
    exact hm.dispatchRounds (by rcases hs with e | e <;> rw [e] <;> rfl)
  · exact hm

theorem enterIdle (hm : s.moves) {before : State} : (before.enterIdle s).moves := by
  unfold State.enterIdle
  split
  · exact hm.dispatch
  · exact hm

/-! ### Notices -/

theorem groupChanged (hm : s.moves) {g : Nat} : (s.groupChanged g).moves := by
  unfold State.groupChanged
  split
  · unfold State.groupBecameHalted
    split
    · split
      · exact (hm.stopForHalt ‹_›).enterIdle
      · exact hm
    · split
      · exact hm.cancelArming ‹_›
      · exact hm
    · exact hm.dispatch
    · exact hm.dispatch
    all_goals exact hm
  · unfold State.groupBecameClear
    split
    · exact hm.dispatch
    · exact hm.dispatch
    · split
      · exact hm
      · split
        · exact hm.rearmForEpoch
        · exact hm
    all_goals exact hm

theorem tellChanges (hm : s.moves) {before : State} : (before.tellChanges s).moves :=
  hm.foldl fun _ _ hu => hu.groupChanged

theorem raiseHalt (hm : s.moves) {g : Nat} {c : Cause} {o : Nat} : (s.raiseHalt g c o).moves :=
  hm.raiseInTable.tellChanges

/-! ### Marks -/

theorem losePeer (hm : s.moves) {a : Nat} : (s.losePeer a).moves := by
  have hlost : (s.setPeer a { s.peer a with presence := .lost }).moves := hm.setPeers
  have hmember : ∀ {u : State}, u.moves → (u.memberLost a).moves := by
    intro u hu
    unfold State.memberLost
    split
    · exact hu
    · split
      · exact hu.raiseHalt
      · exact hu
  have hfollower : ∀ {u : State}, u.moves → (u.followerLost a).moves := by
    intro u hu
    unfold State.followerLost
    split
    · exact hu.checkLeader
    · exact hu
  unfold State.losePeer
  split
  · exact hfollower (hmember hlost)
  · exact hm

theorem countMisses (hm : s.moves) : s.countMisses.moves :=
  foldl (s := s.judgePeers) hm.setPeers fun _ _ hu => hu.losePeer

theorem startBarrier (hm : s.moves) (hs : s.station = .armed) : s.startBarrier.moves := by
  unfold State.startBarrier
  split
  · refine enterIdle (startCandidate (l := True) (h := True) hm.setBarrier ?_)
    rw [State.setBarrier_station, hs]; rfl
  · exact hm

theorem checkDwell (hm : s.moves) : s.checkDwell.moves := by
  unfold State.checkDwell
  split
  · exact hm.endRecord.enterIdle
  · exact hm

theorem checkSettle (hm : s.moves) : s.checkSettle.moves := by
  unfold State.checkSettle
  split
  · exact hm.faultOfActive (.inr trivial)
  · exact hm

theorem startDue_station {u : State} (h : u.startDue = true) : u.station = .armed := by
  simp only [State.startDue, Bool.and_eq_true, decide_eq_true_eq] at h
  exact h.1

theorem checkStart (hm : s.moves) : s.checkStart.moves := by
  unfold State.checkStart
  split
  · exact hm.startBarrier (startDue_station ‹_›)
  · exact hm

theorem markBarrier (hm : s.moves) {slip : Bool} : (s.markBarrier slip).moves := by
  unfold State.markBarrier
  split
  · unfold State.slipBarrier
    split
    · exact hm
    · split
      · exact hm
      · split
        · exact hm.recordFault (.inr trivial)
        · exact hm.setBarrier
  · split
    · exact hm.startBarrier (startDue_station ‹_›)
    · exact hm.countWait.checkWait

theorem markDwell (hm : s.moves) {slip : Bool} : (s.markDwell slip).moves := by
  unfold State.markDwell
  split
  · exact hm.faultOfActive (.inr trivial)
  · exact hm.checkDwell

theorem countSilence (hm : s.moves) : s.countSilence.moves := hm.setFollow (.inl rfl)

theorem signalCycle (hm : s.moves) {slip : Bool} : (s.signalCycle slip).moves := by
  unfold State.signalCycle
  split
  · exact hm.markDwell.countMisses
  · dsimp only
    split
    · exact hm.countMisses.markBarrier
    · exact hm.countMisses
  · dsimp only
    split
    · exact checkSettle hm.countMisses.setEncoder
    · exact hm.countMisses
  · dsimp only
    split
    · exact hm.countMisses.countSilence.checkLeader
    · exact hm.countMisses
  · exact hm.countMisses

theorem newCycle (hm : s.moves) {m : Cycle} {slip : Bool} : (s.newCycle m slip).moves :=
  signalCycle (setLink (s := s.restartTiming) hm.setLink)

/-- A station that joins enters IDLE with its level tests (R27). -/
theorem becomeJoined (hm : s.moves) (hs : s.station = .offline) {m : Cycle} {b : Bool} :
    (s.becomeJoined m b).moves := by
  have hlinked : ∀ l : Link, (s.setLink l).moves := fun _ => hm.setLink
  rw [State.becomeJoined, State.join]
  refine enterIdle (levelTests ((hlinked _).setStation ?_ rfl))
  rw [State.setLink_station, hs]
  rfl

theorem hearMark (hm : s.moves) (hl : s.linkOk) {m : Cycle} {check : Byte} :
    (s.hearMark m check).moves := by
  have hrunning : (s.markRunning m).moves := by
    unfold State.markRunning
    split
    · exact hm.newCycle
    · split
      · exact hm.setLink
      · exact hm.newCycle
  have hcleared : s.clearHeard.moves := hm.setPeers
  unfold State.hearMark
  split
  · exact hm
  · split
    · exact hm
    · rename_i hlisten
      have hoffline : s.station = .offline := hl.1.2 (.inr hlisten)
      rw [State.markListening]
      dsimp only
      split
      · exact hcleared.becomeJoined hoffline
      · exact hcleared.setLink
    · exact hrunning
    · exact hrunning

/-! ### Messages -/

theorem takeSegment (hm : s.moves) {body : List Byte} : (s.takeSegment body).moves := by
  have haccept : ∀ e, (s.accept e).moves := by
    intro e
    have hplaced : (s.setQueue { s.queue with
      entries := placeEntry e s.queue.entries, expected := s.queue.expected + 1,
      fresh := false }).moves := hm.setQueue
    rw [State.accept]
    dsimp only
    split
    · rename_i hp
      simp only [State.preempts, Bool.and_eq_true, decide_eq_true_eq] at hp
      exact (hplaced.beginStop (.inr trivial) hp.2.1).enterIdle
    · exact hplaced.dispatch
  unfold State.takeSegment
  split
  · exact hm.refuse
  · split
    · unfold State.takeCurrent
      split
      · exact hm.refuse
      · split
        · exact hm.refuse
        · exact haccept _
    · split
      · exact hm
      · exact hm.refuse

theorem takeFlush (hm : s.moves) {body : List Byte} : (s.takeFlush body).moves := by
  unfold State.takeFlush
  split
  · exact hm.refuse
  · rw [State.doFlush]
    dsimp only
    split
    · exact setStack hm.setQueue
    · exact dispatch (setStack hm.setQueue)

theorem setLatch (hm : s.moves) : s.setLatch.moves := hm.setSeq rfl rfl

theorem takeStop (hm : s.moves) {body : List Byte} : (s.takeStop body).moves := by
  have hquiet : ∀ m, (s.stopQuiet m).moves := by
    intro m
    cases m
    · exact hm.refuse
    · exact hm.refuse
    · change (if s.seq.paused then s else s.setLatch.dispatch).moves
      split
      · exact hm
      · exact hm.setLatch.dispatch
  have hrunning : s.station = .running → ∀ m, (s.stopRunning m).moves := by
    intro hs m
    cases m
    · exact (hm.beginStop (.inr trivial) hs).enterIdle
    · exact (hm.beginStop (.inr trivial) hs).enterIdle
    · exact (hm.setLatch.beginStop (.inr trivial) hs).enterIdle
  have hstopping : ∀ m, (s.stopStopping m).moves := by
    intro m
    cases m
    · exact hm
    · exact hm.reachStandstill.enterIdle
    · exact hm.setLatch
  unfold State.takeStop
  split
  · exact hm.refuse
  · unfold State.doStop
    split
    · exact hrunning ‹_› _
    · exact hstopping _
    · exact hquiet _
    · exact hquiet _
    · exact hquiet _
    · exact hm.refuse
    · exact hm.refuse
    · exact hm

theorem takeContinue (hm : s.moves) {body : List Byte} : (s.takeContinue body).moves := by
  unfold State.takeContinue
  split
  · exact hm.refuse
  · split
    · exact dispatch (hm.setSeq rfl rfl)
    · exact hm

theorem takeSetPosition (hm : s.moves) {body : List Byte} : (s.takeSetPosition body).moves := by
  have hset : ∀ p b, (s.doSetPosition p b).moves := fun _ _ => hm.writePositions.setSeq rfl rfl
  unfold State.takeSetPosition
  split
  · exact hm.refuse
  · split
    · exact hm.refuse
    · exact hm.refuse
    · exact hm.refuse
    · exact hset _ _
    · exact hset _ _
    · exact hset _ _
    · exact hset _ _
    · exact hm

theorem takeHalt (hm : s.moves) {a : Nat} {body : List Byte} : (s.takeHalt a body).moves := by
  unfold State.takeHalt
  split
  · exact hm.raiseHalt
  · exact hm.refuse

theorem takeRelease (hm : s.moves) {a : Nat} {body : List Byte} : (s.takeRelease a body).moves := by
  unfold State.takeRelease
  split
  · exact tellChanges hm.setGroup
  · exact hm.refuse

theorem followStatus (hm : s.moves) {a : Nat} {p : Position} : (s.followStatus a p).moves := by
  unfold State.followStatus
  split
  · rename_i ht
    exact (hm.convertLeader ht.1).enterIdle
  · exact hm

theorem takeStatus (hm : s.moves) {a : Nat} {body : List Byte} : (s.takeStatus a body).moves := by
  unfold State.takeStatus
  split
  · exact hm
  · split
    · exact hm
    · rename_i p _ _
      have hwritten : (s.setPeer a { s.peer a with status := some p }).moves := hm.setPeers
      exact followStatus (readStatusOf (tellChanges hwritten.setGroups))

theorem takeClearFault (hm : s.moves) {body : List Byte} : (s.takeClearFault body).moves := by
  unfold State.takeClearFault
  split
  · exact hm.refuse
  · split
    · exact hm.refuse
    · rename_i hs
      split
      · exact hm.refuse
      · refine enterIdle (hm.setFaults.setStation ?_ rfl)
        rw [State.setFaults_station, not_not.1 hs]
        rfl

theorem takeQuery (hm : s.moves) {a : Nat} {body : List Byte} : (s.takeQuery a body).moves := by
  unfold State.takeQuery
  split
  · exact hm.refuse
  · exact hm.setLink

theorem takeReset (hm : s.moves) {a : Nat} {body : List Byte} : (s.takeReset a body).moves := by
  unfold State.takeReset
  split
  · exact hm.refuse
  · refine dispatch (levelTests ?_)
    rw [State.resetWork_eq]
    exact of_noRecord rfl rfl (Gen.ceased_stands _) rfl

/-! ### Frames -/

theorem listen (hm : s.moves) {heard : Option (List Byte)} : (s.listen heard).moves := by
  unfold State.listen
  split
  · rename_i sent _ _
    have ht : (s.countListen (decide (heard = some sent))).moves := hm.setLink
    dsimp only
    split
    · exact enterIdle (faultOfActive (setLink ht) (.inr trivial))
    · exact ht
  all_goals exact hm

theorem clearCounters (hm : s.moves) : s.clearCounters.moves := by
  rw [State.clearCounters_eq]
  exact hm.of_same rfl rfl rfl rfl rfl fun d => by cases d <;> rfl

theorem slotBegins (hm : s.moves) : s.slotBegins.moves := by
  have hsent : s.sendSlot.moves := setPeers (s := s.setLink _) hm.setLink
  unfold State.slotBegins
  split
  · exact hsent
  · rename_i q _
    have hcounted : (s.sendSlot.setOpenCount (s.sendSlot.openCount + 1)).moves :=
      hsent.of_same rfl rfl rfl rfl rfl fun d => by cases d <;> rfl
    rw [State.afterReport]
    split
    · exact hcounted.clearCounters
    · exact hcounted

theorem handTo (hm : s.moves) {k : MsgKind} {a : Nat} {body : List Byte} :
    (s.handTo k a body).moves := by
  cases k
  · exact hm.takeSegment
  · exact hm.takeFlush
  · exact hm.takeStop
  · exact hm.takeContinue
  · exact hm.takeSetPosition
  · exact hm.takeHalt
  · exact hm.takeRelease
  · exact hm.takeClearFault
  · exact hm.takeQuery
  · exact hm.takeReset

theorem handMessage (hm : s.moves) {a : Nat} {m : Message} : (s.handMessage a m).moves := by
  unfold State.handMessage
  split
  · split
    · exact hm.takeStatus
    · exact hm
  · split
    · exact hm
    · split
      · exact hm.handTo
      · exact hm

theorem hearTransmission (hm : s.moves) (hl : s.linkOk) {own : Bool} {n : Nat} {bytes : List Byte} :
    (s.hearTransmission own n bytes).moves := by
  have hvalid : (s.validFrame (byteAt bytes 0).toNat bytes).moves :=
    foldl (s := s.setPeer _ _) hm.setPeers fun _ _ hu => hu.handMessage
  unfold State.hearTransmission
  split
  · exact hm
  · split
    · exact hm.listen
    · split
      · unfold State.windowMark
        split
        · exact hm.hearMark hl
        · exact hm
      · rw [State.checkFrame]
        split
        · exact hm.setLink
        · split
          · exact hm.setLink
          · split
            · exact hm.setLink
            · exact hvalid

/-! ### Inputs -/

/-- A limit that becomes ACTIVE puts no limit but its own in question. -/
theorem setLimit (hm : s.moves) (d : Side) :
    Moves False True (s.setLimit d true) ∧
      ∀ side, side ≠ d → s.steppingToward side = true → (s.setLimit d true).limitActive side = false := by
  refine ⟨?_, fun side hne hs => ?_⟩
  · have hset : Moves False True (s.setDrive (s.setLimit d true).drive) := by
      obtain ⟨hrec, hg, hmot, hf, -, hh⟩ := hm
      exact ⟨hrec, hg, hmot, hf, False.elim, hh⟩
    cases d <;> exact hset
  · have hold := hm.limits trivial side hs
    cases d <;> cases side
    · exact absurd rfl hne
    · exact hold
    · exact hold
    · exact absurd rfl hne

/-- What the limit just reached does not point at is respected. -/
theorem respected {d : Side} (hm : Moves False True s)
    (hothers : ∀ side, side ≠ d → s.steppingToward side = true → s.limitActive side = false)
    (hd : s.steppingToward d = false) : s.moves := by
  obtain ⟨hrec, hg, hmot, hf, -, hh⟩ := hm
  refine ⟨hrec, hg, hmot, hf, fun _ side hs => ?_, hh⟩
  refine hothers side (fun e => ?_) hs
  rw [e, hd] at hs
  cases hs

/-- A limit judged by the phases of a running HOME (R133). -/
theorem homingLimit {d : Side} (hm : Moves False True s) (hruns : s.homingRuns = true)
    (hothers : ∀ side, side ≠ d → s.steppingToward side = true → s.limitActive side = false) :
    (s.homingLimit d).moves := by
  simp only [State.homingRuns, Bool.and_eq_true, decide_eq_true_eq] at hruns
  obtain ⟨hk, hs⟩ := hruns
  obtain ⟨hnone, hseek⟩ := s.homingOk_iff.1 (hm.homing trivial) hk hs
  unfold State.homingLimit
  split
  · rename_i hphase _
    split
    · have hceased : Moves True True (s.ending.setGen s.ending.gen.ceased) := hm.ending.cease
      exact hceased.enterAway hs (by decide) (by decide)
    · rename_i hside
      refine hm.respected hothers ?_
      by_contra htoward
      obtain ⟨-, hmoves, hdir⟩ := (s.steppingToward_iff d).1 (by simpa using htoward)
      exact hside (hdir ▸ hseek hphase fun e => hmoves (hm.gen.1.2 e))
  · rename_i hphase _
    split
    · have hceased : Moves True True (s.setGen s.gen.ceased) := hm.cease
      exact hceased.enterAway hs (by decide) (by decide)
    · rename_i hside
      refine hm.respected hothers ?_
      by_contra htoward
      obtain ⟨-, hmoves, hdir⟩ := (s.steppingToward_iff d).1 (by simpa using htoward)
      exact hside (hdir ▸ hseek hphase fun e => hmoves (hm.gen.1.2 e))
  · exact hm.failHoming
  · exact hm.failHoming
  · exact hm.failHoming
  · exact hm.failHoming
  · rename_i hphase
    exact absurd hphase hnone

theorem limitReached {d : Side} (hm : Moves False True s)
    (hothers : ∀ side, side ≠ d → s.steppingToward side = true → s.limitActive side = false) :
    (s.limitReached d).moves := by
  unfold State.limitReached
  split
  · rename_i hk
    unfold State.judgeHomingLimit
    split
    · rename_i hs
      exact hm.homingLimit (by simp [State.homingRuns, hk, hs]) hothers
    · rename_i hs
      split
      · exact hm.failHoming
      · rename_i hstop
        refine hm.respected hothers ?_
        by_contra htoward
        obtain ⟨hmoves, -, hdir⟩ := (s.steppingToward_iff d).1 (by simpa using htoward)
        exact hstop ⟨hmoves.resolve_left hs, hdir⟩
  · unfold State.judgeLimit
    split
    · exact hm.faultOfActive (.inl (by cases d <;> rfl))
    · exact hm.respected hothers (Bool.eq_false_iff.2 ‹_›)

theorem limitChange (hm : s.moves) {d : Side} {active : Bool} : (s.limitChange d active).moves := by
  rw [State.limitChange]
  split
  · rename_i hactive
    subst hactive
    obtain ⟨hset, hothers⟩ := hm.setLimit d
    refine enterIdle (hset.limitReached fun side hne hs => hothers side hne ?_)
    cases d <;> exact hs
  · rename_i hactive
    obtain ⟨hrec, hg, hmot, hf, hl, hh⟩ := hm
    have hlim : ∀ side, s.limitActive side = false →
        (s.setDrive (s.setLimit d active).drive).limitActive side = false := by
      intro side hs
      cases d <;> cases side <;> simp_all [State.limitActive, State.setLimit]
    have hset : (s.setDrive (s.setLimit d active).drive).moves :=
      ⟨hrec, hg, hmot, hf, fun _ side hs => hlim side (hl trivial side hs), hh⟩
    cases d <;> exact hset

theorem homeChange (hm : s.moves) {active : Bool} : (s.homeChange active).moves := by
  have ht : (s.setDrive { s.drive with home := active }).moves := hm.setDrive rfl rfl
  rw [State.homeChange]
  dsimp only
  split
  · rename_i hruns
    simp only [State.homingRuns, Bool.and_eq_true, decide_eq_true_eq] at hruns
    refine enterIdle ?_
    split
    · exact ht.homeActive hruns.2
    · exact ht.homeInactive hruns.2
  · exact ht

theorem indexRises (hm : s.moves) : s.indexRises.moves := by
  have ht : (s.setDrive { s.drive with encZ := true }).moves := hm.setDrive rfl rfl
  rw [State.indexRises]
  dsimp only
  split
  · exact ht.countIndex.enterIdle
  · exact ht

theorem drvFltChange (hm : s.moves) {active : Bool} : (s.drvFltChange active).moves := by
  have ht : (s.setDrive { s.drive with drvFlt := active }).moves := hm.setDrive rfl rfl
  rw [State.drvFltChange]
  dsimp only
  split
  · exact ht.faultOfActive (.inr trivial)
  · exact ht

theorem holdoffEnds (hm : s.moves) : s.holdoffEnds.moves := dispatch (hm.setDrive rfl rfl)

theorem pulseEnds (hm : s.moves) : s.pulseEnds.moves := by
  have ht : (s.setDrive { s.drive with
    clear := .hold, pulseTimer := none, holdoffTimer := some s.cfg.holdoff }).moves :=
    hm.setDrive rfl rfl
  rw [State.pulseEnds]
  dsimp only
  split
  · exact ht.holdoffEnds
  · exact ht

theorem idles (hm : s.moves) : s.idles.moves := by
  unfold State.idles
  split
  · have ht : (s.setDrive { s.drive with encZ := Config.indexLevel s.indexCount }).moves :=
      hm.setDrive rfl rfl
    exact ht.of_same rfl rfl rfl rfl rfl fun d => by cases d <;> rfl
  · exact hm

/-! ### Start-up -/

/-- A load that ends leaves a station that is not working as it was. -/
theorem judgeRecord (hm : s.moves) (hs : s.station.working = false) {bytes : List Byte}
    {straps : BitVec 5} {levels : BitVec 7} : (s.judgeRecord bytes straps levels).moves := by
  have hfail : s.failLoad.moves := hm.of_same rfl rfl rfl rfl rfl fun d => by cases d <;> rfl
  have hrec : s.seq.active.isSome = s.station.working := hm.record
  have hnone : s.seq.active = none := by simpa [hs] using hrec
  have hstands : s.gen.stands := hm.stands_of_station (fun e => by simp [e, Station.working] at hs)
    fun e => by simp [e, Station.working] at hs
  unfold State.judgeRecord
  split
  · exact hfail
  · split
    · rw [State.useRecord_eq]
      exact of_noRecord hnone hs hstands (hm.follow_none hs)
    · exact hfail

end Moves

/-- Every command but the two resets keeps the motion invariant. -/
theorem exec_moves (c : Instr) (s t : State) (hpower : c ≠ .powerOn) (hpin : c ≠ .pinReset)
    (hm : s.moves) (hl : s.linkOk) (h : exec c s = .next t) : t.moves := by
  have hif : ∀ {p : Prop} [Decidable p] {u : State}, (p → u.moves) → (if p then u else s).moves := by
    intro p _ u hu
    split
    · exact hu ‹_›
    · exact hm
  cases c <;> cases h
  case powerOn => exact absurd rfl hpower
  case pinReset => exact absurd rfl hpin
  case resetPinRelease =>
    exact hif fun _ => hm.of_same rfl rfl rfl rfl rfl fun d => by cases d <;> rfl
  case configLoadDone bytes straps levels =>
    refine hif fun hruns => hm.judgeRecord ?_
    have hoffline : s.station = .offline := by
      refine hl.1.2 (.inl ?_)
      by_contra hne
      have := hl.2 hne
      simp [State.loadRuns, this] at hruns
    rw [hoffline]
    rfl
  case configReadTimeout =>
    exact hif fun _ => hm.of_same rfl rfl rfl rfl rfl fun d => by cases d <;> rfl
  case markHeard => exact hm.hearMark hl
  case markTimerExpiry => exact hif fun _ => Moves.newCycle hm.setLink
  case silenceTimerExpiry =>
    refine hif fun hlisten => Moves.becomeJoined ?_ ?_
    · exact Moves.setPeers hm.setLink
    · exact hl.1.2 (.inr hlisten)
  case peerLost => exact hm.losePeer
  case dwellEnd => exact hm.checkDwell
  case barrierStart => exact hm.checkStart
  case barrierTimeout => exact hm.checkWait
  case settleTimeout => exact hm.checkSettle
  case followLost => exact hm.checkLeader
  case frameReceived => exact hm.hearTransmission hl
  case status => exact hif fun _ => hm.takeStatus
  case segment => exact hif fun _ => hm.takeSegment
  case flush => exact hif fun _ => hm.takeFlush
  case stop => exact hif fun _ => hm.takeStop
  case resume => exact hif fun _ => hm.takeContinue
  case setPosition => exact hif fun _ => hm.takeSetPosition
  case halt => exact hif fun _ => hm.takeHalt
  case release => exact hif fun _ => hm.takeRelease
  case clearFault => exact hif fun _ => hm.takeClearFault
  case query => exact hif fun _ => hm.takeQuery
  case stationReset => exact hif fun _ => hm.takeReset
  case slotStart => exact hif fun _ => hm.slotBegins
  case listenBack => exact hm.listen
  case stepDue => exact hif fun _ => hm.stepRun.enterIdle
  case limitInputChange => exact hif fun _ => hm.limitChange
  case homeInputChange => exact hif fun _ => hm.homeChange
  case indexEdge => exact hif fun _ => hm.indexRises
  case drvFltChange => exact hif fun _ => hm.drvFltChange
  case encoderChange => exact hif fun _ => hm.pairChange.enterIdle
  case drvClrPulseEnd => exact hif fun _ => hm.pulseEnds
  case holdoffEnd => exact hif fun _ => hm.holdoffEnds

theorem State.motionInv_iff (s : State) : s.motionInv ↔ s.recordInv ∧ s.moves := by
  constructor
  · rintro ⟨hrecord, hgen, hmotion, hhoming, hfollow, hlimits⟩
    exact ⟨hrecord, hrecord.1, hgen, hmotion, hfollow, fun _ => hlimits, fun _ => hhoming⟩
  · rintro ⟨hrecord, -, hgen, hmotion, hfollow, hlimits, hhoming⟩
    exact ⟨hrecord, hgen, hmotion, hhoming trivial, hfollow, hlimits trivial⟩

/-- Settles O57: no operation orders a run toward an active limit, and a limit that becomes ACTIVE stops
the run that points at it. -/
theorem motionInvariantIsKept : Obligations.MotionInvariantIsKept := by
  intro s t hs hstep
  obtain ⟨hrecord, hm⟩ := s.motionInv_iff.1 hs
  refine t.motionInv_iff.2 ⟨?_, ?_⟩
  · exact step_keeps State.powerOnValues_record (fun _ _ h => h)
      (fun _ _ _ hchange => hchange.keeps_record) s t hrecord hstep
  · unfold step at hstep
    split at hstep
    · cases hstep
      exact hm.idles
    · rename_i c rest _
      have hpending : (s.setPending rest).moves :=
        hm.of_same rfl rfl rfl rfl rfl fun d => by cases d <;> rfl
      rcases exec_cases c _ t hstep with ⟨-, pin, rfl⟩ | ⟨hpower, hpin, -⟩
      · exact (State.motionInv_iff _).1 State.reset_motionInv |>.2.of_same rfl rfl rfl rfl rfl
          fun d => by cases d <;> rfl
      · exact exec_moves c _ t hpower hpin hpending hrecord.2 hstep

end Sys2Proof.Machine

/-! ## Proofs: start-up (O3 to O6) -/

namespace Sys2Proof.Machine

/-- Settles O3: the two resets by computation, and the reset state field by field. -/
theorem powerOnAndPinResetValues : Obligations.PowerOnAndPinResetValues :=
  ⟨fun _ => ⟨rfl, rfl⟩, by decide⟩

/-! ### The configuration record (O4) -/

theorem recordSum_eq (bytes : List Byte) :
    recordSum bytes = ((bytes.take 37).map BitVec.toNat).sum % 65536 := by
  rw [recordSum, List.sum_eq_foldl, List.foldl_map]

theorem encoderModeOf_eq_some (n : Nat) (mode : EncoderMode) : encoderModeOf n = some mode →
    n ≤ 4 ∧ mode = (match n with
      | 0 => .off
      | 1 => .quad1
      | 2 => .quad2
      | 3 => .quad4
      | _ => .upDown) := by
  intro h
  unfold encoderModeOf at h
  split at h <;> cases h <;> exact ⟨by decide, rfl⟩

theorem encoderModeOf_isSome (n : Nat) (h : n ≤ 4) : ∃ mode, encoderModeOf n = some mode := by
  interval_cases n <;> exact ⟨_, rfl⟩

theorem profileOk_iff (p : Profile) : profileOk p = true ↔
    (1 ≤ p.fs ∧ p.fs ≤ p.ft ∧ p.ft ≤ 1000000) ∧ (1 ≤ p.a ∧ p.a ≤ 16777215) ∧
      (1 ≤ p.d ∧ p.d ≤ 16777215) := by
  simp only [profileOk, Bool.and_eq_true, decide_eq_true_eq, and_assoc]
  exact Iff.rfl

theorem byte_beq_iff (b c : Byte) : (b == c) = true ↔ b.toNat = c.toNat := by
  rw [beq_iff_eq, BitVec.toNat_inj]

/-- The ranges of R192. -/
theorem recordInRange_iff (bytes : List Byte) : recordInRange bytes = true ↔
    (byteAt bytes 0).toNat ≤ 1 ∧ (byteAt bytes 1).toNat ≤ 31 ∧
    ((byteAt bytes 2).toNat = 8 ∨ (byteAt bytes 2).toNat = 16 ∨ (byteAt bytes 2).toNat = 32) ∧
    (12 ≤ (byteAt bytes 3).toNat ∧ (byteAt bytes 3).toNat ≤ 24) ∧
    (2 ≤ (byteAt bytes 4).toNat ∧ (byteAt bytes 4).toNat ≤ 8) ∧
    (2 ≤ (byteAt bytes 5).toNat ∧ (byteAt bytes 5).toNat ≤ 15) ∧
    (1 ≤ fieldNat bytes 6 4 ∧ fieldNat bytes 6 4 ≤ fieldNat bytes 10 4 ∧
      fieldNat bytes 10 4 ≤ 1000000) ∧
    (1 ≤ fieldNat bytes 14 4 ∧ fieldNat bytes 14 4 ≤ 16777215) ∧
    (1 ≤ fieldNat bytes 18 4 ∧ fieldNat bytes 18 4 ≤ 16777215) ∧
    (1 ≤ (byteAt bytes 23).toNat ∧ (byteAt bytes 23).toNat ≤ 4) ∧
    fieldNat bytes 24 2 ≤ 4095 ∧ 1 ≤ (byteAt bytes 27).toNat ∧
    (byteAt bytes 30).toNat ≤ 1 ∧ 1 ≤ (byteAt bytes 31).toNat ∧
    (1 ≤ fieldNat bytes 33 2 ∧ fieldNat bytes 33 2 ≤ 4095) ∧
    (byteAt bytes 36).toNat ≤ 1 := by
  have h8 : (byteAt bytes 2 == 8) = true ↔ (byteAt bytes 2).toNat = 8 := byte_beq_iff _ _
  have h16 : (byteAt bytes 2 == 16) = true ↔ (byteAt bytes 2).toNat = 16 := byte_beq_iff _ _
  have h32 : (byteAt bytes 2 == 32) = true ↔ (byteAt bytes 2).toNat = 32 := byte_beq_iff _ _
  simp only [recordInRange, Bool.and_eq_true, Bool.or_eq_true, decide_eq_true_eq, h8, h16, h32,
    profileOk_iff, and_assoc, or_assoc]

/-- A sound record, with the mode its byte names and the other fields as R192 lays them out. -/
theorem settingsOf_eq_some (bytes : List Byte) (c : Settings) (h : settingsOf bytes = some c) :
    ∃ mode, encoderModeOf (byteAt bytes 22).toNat = some mode ∧ bytes.length = 39 ∧
      fieldNat bytes 37 2 = recordSum bytes ∧ recordInRange bytes = true ∧
      c = { addressFromField := byteAt bytes 0 == 1, addressField := (byteAt bytes 1).toNat,
            span := (byteAt bytes 2).toNat, slotUnits := (byteAt bytes 3).toNat,
            lead := (byteAt bytes 4).toNat, lossLimit := (byteAt bytes 5).toNat,
            defaultProfile := ⟨fieldNat bytes 6 4, fieldNat bytes 10 4, fieldNat bytes 14 4,
              fieldNat bytes 18 4⟩,
            encoderMode := mode, divisor := (byteAt bytes 23).toNat,
            followingWindow := fieldNat bytes 24 2, settleWindow := (byteAt bytes 26).toNat,
            settleTimeout := (byteAt bytes 27).toNat, clearance := fieldNat bytes 28 2,
            clrEnabled := byteAt bytes 30 == 1, clrLength := (byteAt bytes 31).toNat,
            holdoff := (byteAt bytes 32).toNat, catchUp := fieldNat bytes 33 2,
            polarities := (byteAt bytes 35).setWidth 7, reversed := byteAt bytes 36 == 1 } := by
  unfold settingsOf at h
  split at h
  case h_1 => cases h
  case h_2 mode hmode =>
    split at h
    case isTrue hok =>
      simp only [Bool.and_eq_true, decide_eq_true_eq, and_assoc] at hok
      obtain ⟨hlength, hsum, hrange⟩ := hok
      exact ⟨mode, hmode, hlength, hsum, hrange, (Option.some.inj h).symm⟩
    case isFalse => cases h

theorem settingsOf_isSome (bytes : List Byte) (hlength : bytes.length = 39)
    (hsum : fieldNat bytes 37 2 = recordSum bytes) (hrange : recordInRange bytes = true)
    (hmode : (byteAt bytes 22).toNat ≤ 4) : (settingsOf bytes).isSome = true := by
  obtain ⟨mode, hmode⟩ := encoderModeOf_isSome _ hmode
  simp [settingsOf, hmode, hlength, hsum, hrange]

/-- Settles O4: the checks are those of R192 one by one, and the fields those of 13.7. -/
theorem configurationRecordIsJudged : Obligations.ConfigurationRecordIsJudged := by
  intro bytes
  refine ⟨⟨fun h => ?_, fun h => ?_⟩, fun c hc => ?_⟩
  · obtain ⟨c, hc⟩ := Option.isSome_iff_exists.1 h
    obtain ⟨mode, hmode, hlength, hsum, hrange, -⟩ := settingsOf_eq_some bytes c hc
    rw [recordInRange_iff] at hrange
    obtain ⟨h0, h1, h2, h3, h4, h5, hft, ha, hd, h23, hrest⟩ := hrange
    exact ⟨hlength, hsum.trans (recordSum_eq bytes), h0, h1, h2, h3, h4, h5, hft, ha, hd,
      (encoderModeOf_eq_some _ _ hmode).1, h23, hrest⟩
  · obtain ⟨hlength, hsum, h0, h1, h2, h3, h4, h5, hft, ha, hd, h22, h23, hrest⟩ := h
    exact settingsOf_isSome bytes hlength (hsum.trans (recordSum_eq bytes).symm)
      ((recordInRange_iff bytes).2 ⟨h0, h1, h2, h3, h4, h5, hft, ha, hd, h23, hrest⟩) h22
  · obtain ⟨mode, hmode, -, -, -, rfl⟩ := settingsOf_eq_some bytes c hc
    have hone : ∀ k, (byteAt bytes k == 1) = true ↔ (byteAt bytes k).toNat = 1 :=
      fun k => byte_beq_iff (byteAt bytes k) 1
    refine ⟨rfl, rfl, rfl, rfl, rfl, (encoderModeOf_eq_some _ _ hmode).2, rfl, rfl, rfl, rfl, rfl,
      hone 30, rfl, rfl, rfl, fun k hk => ?_, hone 36, fun straps => ?_⟩
    · simp [hk]
    · simp only [addressOf, hone 0]

/-! ### The load (O5, O6) -/

theorem State.loadRuns_iff (s : State) : s.loadRuns = true ↔
    s.loader.load = .loading ∧ s.loader.resetPin = false := by
  simp [State.loadRuns]

theorem State.judgeRecord_of_unsound (s : State) (bytes : List Byte) (straps : BitVec 5)
    (levels : BitVec 7) (h : settingsOf bytes = none) :
    s.judgeRecord bytes straps levels = s.failLoad := by
  rw [State.judgeRecord, h]

theorem State.judgeRecord_of_sound (s : State) (bytes : List Byte) (straps : BitVec 5)
    (levels : BitVec 7) (c : Settings) (h : settingsOf bytes = some c) :
    s.judgeRecord bytes straps levels =
      if addressOf c straps < c.span then s.useRecord c (addressOf c straps) levels else s.failLoad := by
  rw [State.judgeRecord, h]

theorem exec_configLoadDone (s : State) (bytes : List Byte) (straps : BitVec 5) (levels : BitVec 7)
    (hload : s.loader.load = .loading) (hpin : s.loader.resetPin = false) :
    exec (.configLoadDone bytes straps levels) s = .next (s.judgeRecord bytes straps levels) :=
  congrArg Host.Outcome.next (if_pos (s.loadRuns_iff.2 ⟨hload, hpin⟩))

/-- Settles O5: each of the ways a load fails ends in the same state. -/
theorem failedLoadLeavesEverythingElse : Obligations.FailedLoadLeavesEverythingElse := by
  refine fun s => ⟨fun hpin => congrArg Host.Outcome.next (if_pos hpin), fun hload hpin => ?_⟩
  refine ⟨s.failLoad, rfl, by simp [State.failLoad, State.faultOutput],
    congrArg Host.Outcome.next (if_pos (s.loadRuns_iff.2 ⟨hload, hpin⟩)), ?_⟩
  intro bytes straps levels hbad
  rw [exec_configLoadDone s bytes straps levels hload hpin]
  rcases hbad with hnone | ⟨c, hc, hspan⟩
  · rw [s.judgeRecord_of_unsound bytes straps levels hnone]
  · rw [s.judgeRecord_of_sound bytes straps levels c hc, if_neg (by omega)]

/-- Settles O6: a sound record whose address lies below the span is put into use. -/
theorem successfulLoadPutsTheRecordIntoUse : Obligations.SuccessfulLoadPutsTheRecordIntoUse := by
  intro s bytes straps levels c hload hpin hc hspan
  rw [exec_configLoadDone s bytes straps levels hload hpin,
    s.judgeRecord_of_sound bytes straps levels c hc, if_pos hspan, s.useRecord_eq]
  rfl

end Sys2Proof.Machine

/-! ## Proofs: dispatch by its gates, and the messages that reach their owners (O25, O26, O28, O30, O39 to
O41) -/

namespace Sys2Proof.Machine

/-! ### One dispatch by its gate (R28 to R30) -/

theorem State.enterIdle_entered (s t : State) (ht : t.station = .idle) (hs : s.station ≠ .idle) :
    s.enterIdle t = t.dispatch := if_pos ⟨ht, hs⟩

/-- A dispatch that starts nothing, or whose start leaves IDLE, is one choice and gating. -/
theorem State.dispatch_once (s : State) (hs : s.station = .idle ∨ s.station = .held)
    (h : s.dispatchStarts = true → s.dispatchOnce.station ≠ .idle) : s.dispatch = s.dispatchOnce := by
  unfold State.dispatch
  rw [if_pos hs, State.dispatchRounds, if_neg]
  simp only [Bool.and_eq_true, decide_eq_true_eq, not_and]
  exact h

theorem State.dispatchStarts_eq (s : State) {src : Source} {w : Work}
    (hc : s.candidate = some (src, w)) : s.dispatchStarts = decide (s.gate w = .start) := by
  unfold State.dispatchStarts
  rw [hc]

/-- A candidate that waits behind the latch or the holdoff leaves the station IDLE. -/
theorem State.dispatch_waits (s : State) (hs : s.station = .idle ∨ s.station = .held) {src : Source}
    {w : Work} (hc : s.candidate = some (src, w)) (hg : s.gate w = .idle) :
    s.dispatch = s.setStation .idle := by
  rw [s.dispatch_once hs (by simp [s.dispatchStarts_eq hc, hg]), State.dispatchOnce, hc]
  simp only [hg]

/-- A candidate of a HALTED group leaves the station HELD. -/
theorem State.dispatch_held (s : State) (hs : s.station = .idle ∨ s.station = .held) {src : Source}
    {w : Work} (hc : s.candidate = some (src, w)) (hg : s.gate w = .held) :
    s.dispatch = s.setStation .held := by
  rw [s.dispatch_once hs (by simp [s.dispatchStarts_eq hc, hg]), State.dispatchOnce, hc]
  simp only [hg]

/-- A candidate with a barrier block that passes the gates is armed. -/
theorem State.dispatch_arms (s : State) (hs : s.station = .idle ∨ s.station = .held) {src : Source}
    {w : Work} {k : BarrierBlock} (hc : s.candidate = some (src, w)) (hg : s.gate w = .arm k) :
    s.dispatch = s.arm w.group k := by
  rw [s.dispatch_once hs (by simp [s.dispatchStarts_eq hc, hg]), State.dispatchOnce, hc]
  simp only [hg]

/-- A candidate that passes the gates and whose start does not end within it is started. -/
theorem State.dispatch_starts (s : State) (hs : s.station = .idle ∨ s.station = .held) {src : Source}
    {w : Work} (hc : s.candidate = some (src, w)) (hg : s.gate w = .start)
    (hstarted : (s.startCandidate src w).station ≠ .idle) : s.dispatch = s.startCandidate src w := by
  have honce : s.dispatchOnce = s.startCandidate src w := by
    rw [State.dispatchOnce, hc]
    simp only [hg]
  rw [s.dispatch_once hs (fun _ => by rwa [honce]), honce]

theorem State.dispatch_noWork_idle (s : State) (h : s.noWork) (hs : s.station = .idle) :
    s.dispatch = s := by
  rw [s.dispatch_noWork h (.inl hs), ← hs]
  rfl

/-! ### The gates (R30) -/

theorem State.gate_of_latch (s : State) (w : Work) (hp : s.seq.paused = true) (hi : w.insert = false) :
    s.gate w = .idle := if_pos (by simp [hp, hi])

theorem State.gate_of_halted (s : State) (w : Work) (hp : s.seq.paused = false ∨ w.insert = true)
    (hg : s.groupHalted w.group = true) : s.gate w = .held := by
  unfold State.gate
  rw [if_neg, if_pos hg]
  rcases hp with h | h <;> simp [h]

/-- Past the latch, the halt and the holdoff the barrier block decides. -/
theorem State.gate_of_open (s : State) (w : Work) (hp : s.seq.paused = false ∨ w.insert = true)
    (hg : s.groupHalted w.group = false) (hd : s.drive.clear = .none) :
    s.gate w = w.barrier.elim .start .arm := by
  have hlatch : ¬ (s.seq.paused && !w.insert) = true := by rcases hp with h | h <;> simp [h]
  have hholdoff : ¬ s.holdoffRunning = true := by simp [State.holdoffRunning, hd]
  unfold State.gate
  rw [if_neg hlatch, if_neg (by simp [hg]), if_neg hholdoff]
  cases w.barrier <;> rfl

/-! ### Messages addressed to the station (R171) -/

section

variable (s : State) (sender : Nat) (dest : Byte) (body : List Byte)

theorem exec_flush_of_addressed (h : s.addressed dest) :
    exec (.flush sender dest body) s = .next (s.takeFlush body) :=
  congrArg Host.Outcome.next (if_pos ((s.takes_iff dest).2 h))

theorem exec_stop_of_addressed (h : s.addressed dest) :
    exec (.stop sender dest body) s = .next (s.takeStop body) :=
  congrArg Host.Outcome.next (if_pos ((s.takes_iff dest).2 h))

theorem exec_resume_of_addressed (h : s.addressed dest) :
    exec (.resume sender dest body) s = .next (s.takeContinue body) :=
  congrArg Host.Outcome.next (if_pos ((s.takes_iff dest).2 h))

theorem exec_release_of_addressed (h : s.addressed dest) :
    exec (.release sender dest body) s = .next (s.takeRelease sender body) :=
  congrArg Host.Outcome.next (if_pos ((s.takes_iff dest).2 h))

theorem exec_clearFault_of_addressed (h : s.addressed dest) :
    exec (.clearFault sender dest body) s = .next (s.takeClearFault body) :=
  congrArg Host.Outcome.next (if_pos ((s.takes_iff dest).2 h))

theorem exec_query_of_addressed (h : s.addressed dest) :
    exec (.query sender dest body) s = .next (s.takeQuery sender body) :=
  congrArg Host.Outcome.next (if_pos ((s.takes_iff dest).2 h))

theorem exec_stationReset_of_addressed (h : s.addressed dest) :
    exec (.stationReset sender dest body) s = .next (s.takeReset sender body) :=
  congrArg Host.Outcome.next (if_pos ((s.takes_iff dest).2 h))

end

/-- Settles O25: every owner asks first whether the link takes the message. -/
theorem messagesForOthersAreNotTaken : Obligations.MessagesForOthersAreNotTaken := by
  intro s sender dest body haddressed
  have htakes : ¬ s.takes dest = true := fun h => haddressed ((s.takes_iff dest).1 h)
  have hkept : ∀ t : State, (if s.takes dest then t else s) = s := fun _ => if_neg htakes
  exact ⟨congrArg _ (hkept _), congrArg _ (hkept _), congrArg _ (hkept _), congrArg _ (hkept _),
    congrArg _ (hkept _), congrArg _ (hkept _), congrArg _ (hkept _), congrArg _ (hkept _),
    congrArg _ (hkept _), congrArg _ (hkept _)⟩

/-! ### Wrong lengths (O26) -/

section

variable (s : State) (sender : Nat) (body : List Byte)

theorem State.takeFlush_of_wrongLength (h : body.length ≠ 2) :
    s.takeFlush body = s.refuse .flush none .badField := by
  rw [State.takeFlush, flushScopeOf, if_pos h]

theorem State.takeRelease_of_wrongLength (h : body.length ≠ 2) :
    s.takeRelease sender body = s.refuse .release none .badField := if_neg fun hb => h hb.1

theorem State.takeStop_of_wrongLength (h : body.length ≠ 1) :
    s.takeStop body = s.refuse .stop none .badField := by
  rw [State.takeStop, stopModeOf, if_pos h]

theorem State.takeQuery_of_wrongLength (h : body.length ≠ 1) :
    s.takeQuery sender body = s.refuse .query none .badField := by
  rw [State.takeQuery, queryOf, if_pos h]

theorem State.takeContinue_of_wrongLength (h : body.length ≠ 0) :
    s.takeContinue body = s.refuse .resume none .badField := if_pos h

theorem State.takeClearFault_of_wrongLength (h : body.length ≠ 0) :
    s.takeClearFault body = s.refuse .clearFault none .badField := if_pos h

theorem State.takeReset_of_wrongLength (h : body.length ≠ 0) :
    s.takeReset sender body = s.refuse .stationReset none .badField := if_pos h

end

/-- Settles O26: every owner judges the length before anything else. -/
theorem wrongLengthIsRefusedBadField : Obligations.WrongLengthIsRefusedBadField := by
  intro s sender dest body ha
  rw [exec_segment_of_addressed s sender dest body ha, exec_flush_of_addressed s sender dest body ha,
    exec_release_of_addressed s sender dest body ha, exec_stop_of_addressed s sender dest body ha,
    exec_halt_of_addressed s sender dest body ha, exec_query_of_addressed s sender dest body ha,
    exec_setPosition_of_addressed s sender dest body ha,
    exec_resume_of_addressed s sender dest body ha,
    exec_clearFault_of_addressed s sender dest body ha,
    exec_stationReset_of_addressed s sender dest body ha]
  exact ⟨fun h => congrArg _ (s.takeSegment_of_short body h),
    fun h => ⟨congrArg _ (s.takeFlush_of_wrongLength body h),
      congrArg _ (s.takeRelease_of_wrongLength sender body h)⟩,
    fun h => ⟨congrArg _ (s.takeStop_of_wrongLength body h),
      congrArg _ (s.takeHalt_of_wrongLength sender body h),
      congrArg _ (s.takeQuery_of_wrongLength sender body h)⟩,
    fun h => congrArg _ (s.takeSetPosition_of_wrongLength body h),
    fun h => ⟨congrArg _ (s.takeContinue_of_wrongLength body h),
      congrArg _ (s.takeClearFault_of_wrongLength body h),
      congrArg _ (s.takeReset_of_wrongLength sender body h)⟩⟩

/-! ### The place of an entry (O28) -/

/-- Settles O28, by induction on the queue. -/
theorem entriesArePlacedByTheInsertFlag : Obligations.EntriesArePlacedByTheInsertFlag := by
  intro e entries
  constructor
  · intro he
    induction entries with
    | nil => rfl
    | cons x xs ih => simp [placeEntry, he, ih]
  · intro he
    induction entries with
    | nil => rfl
    | cons x xs ih => cases hx : x.insert <;> simp [placeEntry, he, hx, ih]

/-! ### QUERY (O40) -/

theorem QueryKind.ofCode_of_unknown (n : Nat) (h : n = 0 ∨ 6 < n) : QueryKind.ofCode n = none := by
  unfold QueryKind.ofCode
  split <;> simp_all

/-- The query of a one-byte body, by its kind and its CLEAR option (R178). -/
theorem queryOf_byte (b : Byte) (sender : Nat) : queryOf [b] sender =
    (QueryKind.ofCode (b.toNat % 128)).bind fun k =>
      if b.getLsbD 7 && decide (k ≠ .counters) then none
      else some { kind := k, clear := b.getLsbD 7, requester := sender } := by
  have hone : ¬ [b].length ≠ 1 := by simp
  have hbyte : byteAt [b] 0 = b := rfl
  simp only [queryOf, if_neg hone, hbyte]
  cases QueryKind.ofCode (b.toNat % 128) <;> rfl

/-- Settles O40: the kind is read from the seven low bits, and CLEAR goes with COUNTERS alone. -/
theorem queryBecomesPending : Obligations.QueryBecomesPending := by
  intro s sender dest b ha k
  rw [exec_query_of_addressed s sender dest [b] ha, State.takeQuery, queryOf_byte]
  refine ⟨fun hbad => ?_, fun kind hkind hclear => ?_⟩
  · rcases hbad with hk | hk | ⟨hclear, hk⟩
    · rw [QueryKind.ofCode_of_unknown _ (.inl hk)]
      rfl
    · rw [QueryKind.ofCode_of_unknown _ (.inr hk)]
      rfl
    · cases hkind : QueryKind.ofCode (b.toNat % 128) with
      | none => rfl
      | some kind =>
        have hne : kind ≠ .counters := by
          rintro rfl
          refine hk ?_
          unfold QueryKind.ofCode at hkind
          split at hkind
          case h_6 h6 => exact h6
          all_goals cases hkind
        simp [hclear, hne, State.refuse_eq]
  · have hcode : QueryKind.ofCode (b.toNat % 128) = some kind := by
      rw [show b.toNat % 128 = _ from hkind]
      cases kind <;> rfl
    have hcounters : b.getLsbD 7 = true → kind = .counters := by
      intro h
      have := hkind.symm.trans (hclear h)
      cases kind <;> simp_all
    have hopen : (b.getLsbD 7 && decide (kind ≠ .counters)) = false := by
      cases hb : b.getLsbD 7 with
      | false => rfl
      | true => simp [hcounters hb]
    simp only [hcode, Option.bind_some, hopen, State.setQuery, satSucc]
    cases s.link.query <;> rfl

/-! ### STATION_RESET (O41) -/

theorem State.involved_iff (s : State) (g : Nat) : s.involved g = true ↔
    g ≠ 0 ∧ ((∃ a, s.seq.active = some a ∧ a.work.group = g) ∨
      (∃ b, s.barrier = some b ∧ b.group = g) ∨ ∃ r ∈ s.stack.residuals, r.group = g) := by
  unfold State.involved
  cases s.seq.active <;> cases s.barrier <;> simp [or_assoc]

/-- The halts of every involved group, entry by entry (R114, R115). -/
theorem State.raiseInvolved_table (s : State) (cause : Cause) (originator : Nat) :
    s.raiseInvolved cause originator = { s with
      groups := s.groups.mapIdx (fun i x =>
        if s.involved (i + 1) = true ∧ x.condition = .clear then
          ⟨x.epoch + 1, .halted, true, cause, some originator, s.link.cycle⟩
        else x) } := by
  have hentry : ∀ (i : Nat) (x : GroupEntry),
      (if s.involved (i + 1) then x.raise cause originator s.link.cycle else x) =
        if s.involved (i + 1) = true ∧ x.condition = .clear then
          ⟨x.epoch + 1, .halted, true, cause, some originator, s.link.cycle⟩
        else x := by
    intro i x
    rcases x.raise_cases cause originator s.link.cycle with ⟨hc, h⟩ | ⟨hc, h⟩ <;> simp [h, hc]
  simp only [State.raiseInvolved, State.setGroups, hentry]

theorem State.levelTests_of_quiet (s : State) (hd : s.drive.drvFlt = false) (he : s.errorBeyond = false) :
    s.levelTests = s := by
  simp [State.levelTests, hd, he]

/-- Settles O41: items 1 to 4 of R195, and a dispatch that finds no work. -/
theorem stationResetEmptiesWorkAndKeepsTheRest : Obligations.StationResetEmptiesWorkAndKeepsTheRest := by
  refine ⟨State.involved_iff, State.raiseInvolved_table, fun s sender dest ha hdrive herror => ?_⟩
  have hquiet : ∀ u : State, u.drive.drvFlt = false → u.errorBeyond = false → u.noWork →
      u.station = .idle → u.levelTests.dispatch = u := by
    intro u hd he hwork hs
    rw [u.levelTests_of_quiet hd he, u.dispatch_noWork_idle hwork hs]
  rw [exec_stationReset_of_addressed s sender dest [] ha, State.takeReset, if_neg (by simp),
    State.resetWork_eq, State.raiseInvolved_table]
  exact congrArg _ (hquiet _ hdrive herror ⟨rfl, rfl⟩ rfl)

/-! ### CLEAR_FAULT (O39) -/

/-- The persisting causes of R186, for a station that is not SILENT. -/
theorem State.causesPresent_iff (s : State) (hl : s.link.state ≠ .silent) :
    s.faults.kinds.any s.causePresent = true ↔
      (.driveFault ∈ s.faults.kinds ∧ s.drive.drvFlt = true) ∨
      (.followingError ∈ s.faults.kinds ∧ s.cfg.encoderMode ≠ .off ∧ s.cfg.followingWindow ≠ 0 ∧
        s.cfg.followingWindow < ((s.gen.position - s.encoder.position).toInt).natAbs) := by
  have herror : s.errorBeyond = true ↔ s.cfg.encoderMode ≠ .off ∧ s.cfg.followingWindow ≠ 0 ∧
      s.cfg.followingWindow < ((s.gen.position - s.encoder.position).toInt).natAbs := by
    simp [State.errorBeyond, State.encoderOn, State.followingError, diff32, and_assoc]
  rw [← herror, List.any_eq_true]
  constructor
  · rintro ⟨k, hk, hcause⟩
    cases k <;> simp_all [State.causePresent]
  · rintro (⟨hk, h⟩ | ⟨hk, h⟩)
    · exact ⟨_, hk, h⟩
    · exact ⟨_, hk, h⟩

theorem State.takeClearFault_accepted (s : State) (hs : s.station = .faulted)
    (hc : ¬ s.faults.kinds.any s.causePresent = true) :
    s.takeClearFault [] = ((s.setFaults .reset).setStation .idle).dispatch := by
  rw [State.takeClearFault, if_neg (by simp), if_neg (by simp [hs]), if_neg hc, State.endEpisode,
    State.enterIdle_entered _ _ rfl (by simp [hs])]

/-- Settles O39: the checks of R185 in their order, and the two ends of the dispatch that follows. -/
theorem clearFaultIsRefusedOrEndsTheEpisode : Obligations.ClearFaultIsRefusedOrEndsTheEpisode := by
  intro s sender dest ha present
  have hpresent := s.causesPresent_iff (by simp [ha.1])
  rw [exec_clearFault_of_addressed s sender dest [] ha]
  refine ⟨fun hs => ?_, fun hs hcause => ?_, fun hs hcause => ⟨fun hwork => ?_, ?_⟩⟩
  · rw [State.takeClearFault, if_neg (by simp), if_pos hs, State.refuse_eq]
  · rw [State.takeClearFault, if_neg (by simp), if_neg (by simp [hs]), if_pos (hpresent.2 hcause),
      State.refuse_eq]
  · rw [s.takeClearFault_accepted hs fun h => hcause (hpresent.1 h)]
    exact congrArg _ (State.dispatch_noWork_idle ((s.setFaults .reset).setStation .idle) hwork rfl)
  · intro e es hqueue hstack hpaused hhalted
    have hc : ((s.setFaults .reset).setStation .idle).candidate = some (.queueHead, .segment e) :=
      State.candidate_queueHead _ e es hqueue (.inr hstack)
    rw [s.takeClearFault_accepted hs fun h => hcause (hpresent.1 h)]
    exact congrArg _ (State.dispatch_held ((s.setFaults .reset).setStation .idle) (.inl rfl) hc
      (State.gate_of_halted _ _ (.inl hpaused) hhalted))

/-! ### An INSERT (O30) -/

theorem dist8_self (a : BitVec 8) : dist8 a a = 0 := by simp [dist8]

/-- A current, well-made SEGMENT that the station refuses (R14). -/
theorem State.takeSegment_of_refused (s : State) (body : List Byte) (e : QueueEntry) (r : Reason)
    (hlen : 4 ≤ body.length) (htag : byteAt body 0 = s.queue.expected)
    (he : segmentOf s.own s.cfg.span s.cfg.defaultProfile body = some e)
    (hr : s.acceptRefusal e = some r) :
    s.takeSegment body = s.refuse .segment (some e.tag) r := by
  rw [s.takeSegment_of_current body hlen (by rw [htag, dist8_self]), State.takeCurrent]
  simp only [he, hr]

/-- A current, well-made SEGMENT that finds room is accepted (R14, R15). -/
theorem State.takeSegment_of_accepted (s : State) (body : List Byte) (e : QueueEntry)
    (hlen : 4 ≤ body.length) (htag : byteAt body 0 = s.queue.expected)
    (he : segmentOf s.own s.cfg.span s.cfg.defaultProfile body = some e)
    (hr : s.acceptRefusal e = none) : s.takeSegment body = s.accept e := by
  rw [s.takeSegment_of_current body hlen (by rw [htag, dist8_self]), State.takeCurrent]
  simp only [he, hr]

theorem State.acceptRefusal_of_insert (s : State) (e : QueueEntry) (hroom : s.queue.entries.length < 16)
    (hi : e.insert = true) : s.acceptRefusal e = s.insertRefusal := by
  rw [State.acceptRefusal, if_neg (by omega), if_pos hi]

/-- An INSERT over a running record (R77). -/
theorem State.insertRefusal_of_running (s : State) (hs : s.station = .running) :
    s.insertRefusal = if s.preempts then
      if s.stack.residuals.length + 1 ≤ 3 then none else some .stackFull
    else some .notSuspendable := by
  rw [State.insertRefusal, hs]

theorem State.preempts_of_running (s : State) (a : Active) (hs : s.station = .running)
    (ha : s.seq.active = some a) : s.preempts = a.work.kind.suspendable := by
  simp [State.preempts, State.activeKind, hs, ha]

/-- A decelerating stop of a record in motion brakes it, whatever its disposition (R46, R66). -/
theorem State.beginStop_brakes (s : State) (d : Disposition) (faultEnded : Bool) (a : Active)
    (ha : s.seq.active = some a) (hk : a.work.kind ≠ .dwell) (hf : s.follow.phase ≠ .tracking)
    (hg : s.gen.stopsAtOnce = false) : s.beginStop d false faultEnded = { s with
      queue := s.queue.unbound
      seq := { s.seq with
        station := .stopping
        active := some { a with
          disposition := some d, faultEnded := faultEnded, reserved := decide (d = .preempt),
          bound := none } }
      gen := s.gen.brake } := by
  rw [s.beginStop_some d false faultEnded a ha hf, State.stopMotion_brakes]
  · rfl
  · exact fun h => hk (Option.some.inj h)
  · exact hg

/-- Settles O30: the conditions of R14 and R77 in their order, and the stop of R78. -/
theorem insertIsRefusedOrPreempts : Obligations.InsertIsRefusedOrPreempts := by
  intro s sender dest body e ha hlen htag he
  rw [exec_segment_of_addressed s sender dest body ha]
  have hrefused : ∀ r, s.acceptRefusal e = some r → Host.Outcome.next (φ := Fault) (ρ := Refusal)
      (s.takeSegment body) = .next { s with queue := s.queue.refused .segment (some e.tag) r } :=
    fun r hr => congrArg _ (s.takeSegment_of_refused body e r hlen htag he hr)
  refine ⟨fun hfull => hrefused _ (if_pos hfull), fun hroom hi => ?_⟩
  have hinsert := s.acceptRefusal_of_insert e hroom hi
  refine ⟨fun hs => hrefused _ (by rw [hinsert, State.insertRefusal, hs]), fun a hs hactive => ?_⟩
  have hrunning := s.insertRefusal_of_running hs
  have hpreempts := s.preempts_of_running a hs hactive
  refine ⟨fun hk => hrefused _ ?_, fun hk hfull => hrefused _ ?_, fun r hk hstack hr hstand hbrake hfast
    hfollow => ?_⟩
  · rw [hinsert, hrunning, hpreempts]
    rcases hk with hk | hk <;> rw [hk] <;> rfl
  · rw [hinsert, hrunning, hpreempts, if_pos (by rcases hk with hk | hk | hk <;> rw [hk] <;> rfl),
      if_neg (by omega)]
  · have hsuspends : s.preempts = true := by
      rw [hpreempts]
      rcases hk with hk | hk <;> rw [hk] <;> rfl
    have hnone : s.acceptRefusal e = none := by
      rw [hinsert, hrunning, if_pos hsuspends, if_pos (by omega)]
    have hg : s.gen.stopsAtOnce = false := s.gen.stopsAtOnce_of_fast r hr hstand hbrake hfast
    rw [s.takeSegment_of_accepted body e hlen htag he hnone, State.accept]
    simp only [hi, hsuspends, Bool.and_self, if_true]
    rw [State.beginStop_brakes (s.setQueue { s.queue with
        entries := placeEntry e s.queue.entries, expected := s.queue.expected + 1,
        fresh := false }) .preempt false a hactive
      (by rcases hk with hk | hk <;> simp [hk]) (by simp [hfollow]) hg,
      State.enterIdle_other _ _ (by simp [State.station])]
    rfl

end Sys2Proof.Machine

/-! ## Proofs: what stops, faults and completions make of the state, whole (R35, R46 to R49, R74 to R81,
R183) -/

namespace Sys2Proof.Machine

/-! ### The Follow Unit and the record under a stop -/

/-- The Follow Unit once a stop has begun (R148). -/
def Follow.stopped (f : Follow) : Follow :=
  if f.phase = .tracking then { f with phase := .ceased, turning := none } else f

theorem State.ceaseFollow_eq (s : State) : s.ceaseFollow = { s with follow := s.follow.stopped } := by
  unfold State.ceaseFollow Follow.stopped
  split <;> rfl

/-- The state in which the motion of a running record stops: unbound, with its disposition (R46). -/
def State.stopOrdered (s : State) (a : Active) (d : Disposition) (faultEnded : Bool) : State := { s with
  queue := s.queue.unbound
  seq := { s.seq with active := some { a with
    disposition := some d, faultEnded := faultEnded, reserved := decide (d = .preempt),
    bound := none } }
  follow := s.follow.stopped }

theorem State.beginStop_ordered (s : State) (d : Disposition) (immediate faultEnded : Bool) (a : Active)
    (ha : s.seq.active = some a) :
    s.beginStop d immediate faultEnded = (s.stopOrdered a d faultEnded).stopMotion immediate := by
  rw [s.beginStop_eq d immediate faultEnded a ha, State.ceaseFollow_eq]
  rfl

/-- A stop that is at standstill within its happening (R46, R66). -/
theorem State.beginStop_stands (s : State) (d : Disposition) (immediate faultEnded : Bool) (a : Active)
    (ha : s.seq.active = some a)
    (h : immediate = true ∨ a.work.kind = .dwell ∨ s.gen.stopsAtOnce = true) :
    s.beginStop d immediate faultEnded = (s.stopOrdered a d faultEnded).reachStandstill := by
  rw [s.beginStop_ordered d immediate faultEnded a ha, State.stopMotion, if_pos]
  rcases h with h | h | h <;> simp [State.stopOrdered, State.activeKind, h]

/-- A stop that brakes (R46, R66). -/
theorem State.beginStop_goesOn (s : State) (d : Disposition) (faultEnded : Bool) (a : Active)
    (ha : s.seq.active = some a) (hk : a.work.kind ≠ .dwell) (hg : s.gen.stopsAtOnce = false) :
    s.beginStop d false faultEnded =
      ((s.stopOrdered a d faultEnded).setGen s.gen.brake).setStation .stopping := by
  rw [s.beginStop_ordered d false faultEnded a ha, State.stopMotion_brakes]
  · rfl
  · exact fun h => hk (Option.some.inj h)
  · exact hg

/-! ### Standstill by the disposition (R48) -/

section

variable (s : State) (a : Active) (ha : s.seq.active = some a)

include ha

theorem State.reachStandstill_faulted (hf : a.faultEnded = true) :
    s.reachStandstill = s.endRecord .faulted := by
  rw [State.reachStandstill, ha]
  exact if_pos hf

theorem State.reachStandstill_abort (hf : a.faultEnded = false) (hd : a.disposition = some .abort) :
    s.reachStandstill = s.endRecord .aborted := by
  rw [State.reachStandstill, ha]
  simp only [hf, hd]
  rfl

theorem State.reachStandstill_preempt (hf : a.faultEnded = false) (hd : a.disposition = some .preempt)
    {part : Remaining} (hp : s.remainingPart a = some part) :
    s.reachStandstill = s.pushResidual (a.residual .preempt part) := by
  rw [State.reachStandstill, ha]
  simp only [hf, hd, hp]
  rfl

theorem State.reachStandstill_pause (hf : a.faultEnded = false) (hd : a.disposition = some .pause)
    {part : Remaining} (hp : s.remainingPart a = some part) (hroom : s.stack.residuals.length < 3) :
    s.reachStandstill = s.pushResidual (a.residual .pause part) := by
  rw [State.reachStandstill, ha]
  simp only [hf, hd, hp]
  exact if_pos (decide_eq_true hroom)

theorem State.reachStandstill_pauseFull (hf : a.faultEnded = false) (hd : a.disposition = some .pause)
    {part : Remaining} (hp : s.remainingPart a = some part) (hfull : 3 ≤ s.stack.residuals.length) :
    s.reachStandstill = s.discardResidual .aborted := by
  rw [State.reachStandstill, ha]
  simp only [hf, hd, hp]
  exact if_neg (fun h => absurd (of_decide_eq_true h) (by omega))

theorem State.reachStandstill_halt (hf : a.faultEnded = false) (hd : a.disposition = some .halt)
    {part : Remaining} (hp : s.remainingPart a = some part) (hroom : s.stack.residuals.length < 3) :
    s.reachStandstill = s.pushResidual (a.residual .halt part) := by
  rw [State.reachStandstill, ha]
  simp only [hf, hd, hp]
  exact if_pos (decide_eq_true hroom)

end

/-- What is left of a MOVE at standstill (R75). -/
theorem State.remainingPart_move (s : State) (a : Active) (r : Run) (hk : a.work.kind = .move)
    (hr : s.gen.run = some r) : s.remainingPart a = some (.move (s.gen.remaining r)) := by
  obtain ⟨work, _, _, _, _, _⟩ := a
  cases work with
  | segment e =>
    obtain ⟨_, _, _, _, _, _, body, _⟩ := e
    cases body <;> simp_all [State.remainingPart, Work.kind, Body.kind]
  | residual x =>
    obtain ⟨_, _, _, _, _, part⟩ := x
    cases part <;> simp_all [State.remainingPart, Work.kind, Remaining.kind]

/-- What is left of a DWELL at standstill (R75). -/
theorem State.remainingPart_dwell (s : State) (a : Active) (stop : Cycle) (hk : a.work.kind = .dwell)
    (hd : a.dwellEnd = some stop) :
    s.remainingPart a = some (.dwell (stop - s.link.cycle).toNat) := by
  obtain ⟨work, _, _, _, _, _⟩ := a
  cases work with
  | segment e =>
    obtain ⟨_, _, _, _, _, _, body, _⟩ := e
    cases body <;> simp_all [State.remainingPart, Work.kind, Body.kind, dist16]
  | residual x =>
    obtain ⟨_, _, _, _, _, part⟩ := x
    cases part <;> simp_all [State.remainingPart, Work.kind, Remaining.kind, dist16]

/-! ### Completing (R35) -/

theorem State.completeWork_done (s : State) (a : Active) (ha : s.seq.active = some a)
    (hf : a.faultEnded = false) (hs : a.work.kind.settles = false ∨ s.settlesAtEnd = false) :
    s.completeWork = s.endRecord .done := by
  rw [State.completeWork, ha]
  have hnot : ¬ (a.work.kind.settles && s.settlesAtEnd) = true := by rcases hs with h | h <;> simp [h]
  simp only [hf, Bool.false_eq_true, if_false]
  exact if_neg hnot

theorem State.completeWork_settles (s : State) (a : Active) (ha : s.seq.active = some a)
    (hf : a.faultEnded = false) (hk : a.work.kind.settles = true) (hs : s.settlesAtEnd = true) :
    s.completeWork = s.enterSettling := by
  rw [State.completeWork, ha]
  simp only [hf, hk, hs]
  rfl

theorem State.settlesAtEnd_of_off (s : State) (h : s.cfg.encoderMode = .off) : s.settlesAtEnd = false := by
  simp [State.settlesAtEnd, State.encoderOn, h]

/-! ### Faults (R49, R183) -/

/-- The drive once a fault has been told to it (R153). -/
def State.pulsed (s : State) (k : FaultKind) : Drive :=
  if k.pulses = true ∧ s.cfg.clrEnabled = true then
    { s.drive with clear := .pulse, pulseTimer := some s.cfg.clrLength, holdoffTimer := none }
  else s.drive

/-- HOMED once a fault has been raised (R52). -/
def State.homedAfter (s : State) (k : FaultKind) : Bool := if k.clearsHomed then false else s.seq.homed

/-- The state in which the sequencer acts on a fault: recorded, and the halts raised (R183). -/
def State.faultLogged (s : State) (k : FaultKind) (tag : Option Tag) : State := { s with
  faults := s.faults.record ⟨k, s.link.cycle, tag, s.gen.position⟩
  groups := (s.raiseInvolved .fault s.own).groups }

theorem State.told_eq (s : State) (k : FaultKind) : (s.clearHomedFor k).pulseFor k =
    { s with seq := { s.seq with homed := s.homedAfter k }, drive := s.pulsed k } := by
  unfold State.pulseFor State.clearHomedFor State.startPulse State.homedAfter State.pulsed
  cases k.clearsHomed <;> cases k.pulses <;> cases hc : s.cfg.clrEnabled <;> simp [hc] <;> rfl

theorem State.recordFault_logged (s : State) (k : FaultKind) (tag : Option Tag)
    (h : s.station ≠ .offline) : s.recordFault k tag =
      (((s.faultLogged k tag).faultStation k.immediate).clearHomedFor k).pulseFor k :=
  s.recordFault_online k tag h

/-- A record that a fault ends at once, whole: by its kind, or because it stands still (R47, R49). -/
theorem State.recordFault_ends (s : State) (k : FaultKind) (tag : Option Tag) (a : Active)
    (ha : s.seq.active = some a)
    (h : s.station = .settling ∨ (s.station = .stopping ∧ k.immediate = true) ∨
      (s.station = .running ∧
        (k.immediate = true ∨ a.work.kind = .dwell ∨ s.gen.stopsAtOnce = true))) :
    s.recordFault k tag = { s with
      faults := s.faults.record ⟨k, s.link.cycle, tag, s.gen.position⟩
      groups := (s.raiseInvolved .fault s.own).groups
      queue := if s.station = .running then s.queue.unbound else s.queue
      seq := { s.seq.ended .faulted a.work.tag .faulted with homed := s.homedAfter k }
      gen := s.gen.ceased, homing := .reset, follow := .reset
      encoder := { s.encoder with settle := none }, barrier := none, drive := s.pulsed k } := by
  have hlogged : (s.faultLogged k tag).seq.active = some a := ha
  have hactive : s.station ≠ .offline := by
    rcases h with h | ⟨h, -⟩ | ⟨h, -⟩ <;> simp [h]
  rw [s.recordFault_logged k tag hactive]
  have hend : (s.faultLogged k tag).faultStation k.immediate = { s with
      faults := s.faults.record ⟨k, s.link.cycle, tag, s.gen.position⟩
      groups := (s.raiseInvolved .fault s.own).groups
      queue := if s.station = .running then s.queue.unbound else s.queue
      seq := s.seq.ended .faulted a.work.tag .faulted
      gen := s.gen.ceased, homing := .reset, follow := .reset
      encoder := { s.encoder with settle := none }, barrier := none } := by
    have hstation : (s.faultLogged k tag).station = s.station := rfl
    rcases h with h | ⟨h, hk⟩ | ⟨h, hk⟩
    · rw [State.faultStation, hstation, h]
      simp only [State.endRecord_some _ _ a hlogged]
      rfl
    · rw [State.faultStation, hstation, h]
      simp only [hk, State.faultWhileStopping, State.ceaseFollow_eq, if_true]
      have hmarked : (s.faultLogged k tag).seq.active.map (fun a : Active =>
          { a with faultEnded := true, reserved := false }) =
            some { a with faultEnded := true, reserved := false } := by rw [hlogged]; rfl
      rw [State.reachStandstill_faulted _ { a with faultEnded := true, reserved := false } hmarked rfl,
        State.endRecord_some _ _ { a with faultEnded := true, reserved := false } hmarked]
      rfl
    · rw [State.faultStation, hstation, h]
      simp only []
      rw [State.beginStop_stands _ _ _ _ a hlogged hk,
        State.reachStandstill_faulted _ _ rfl rfl, State.endRecord_some _ _ _ rfl]
      rfl
  rw [hend, State.told_eq]
  rfl

/-- A running record that a fault ends at once, whole (R49). -/
theorem State.recordFault_endsRunning (s : State) (k : FaultKind) (tag : Option Tag) (a : Active)
    (ha : s.seq.active = some a) (hs : s.station = .running)
    (h : k.immediate = true ∨ a.work.kind = .dwell ∨ s.gen.stopsAtOnce = true) :
    s.recordFault k tag = { s with
      faults := s.faults.record ⟨k, s.link.cycle, tag, s.gen.position⟩
      groups := (s.raiseInvolved .fault s.own).groups
      queue := s.queue.unbound
      seq := { s.seq.ended .faulted a.work.tag .faulted with homed := s.homedAfter k }
      gen := s.gen.ceased, homing := .reset, follow := .reset
      encoder := { s.encoder with settle := none }, barrier := none, drive := s.pulsed k } := by
  rw [s.recordFault_ends k tag a ha (.inr (.inr ⟨hs, h⟩)), if_pos hs]

/-- A station without a record, from IDLE onward, becomes FAULTED (R49). -/
theorem State.recordFault_standing (s : State) (k : FaultKind) (tag : Option Tag)
    (h : s.station = .idle ∨ s.station = .held ∨ s.station = .armed ∨ s.station = .faulted) :
    s.recordFault k tag = { s with
      faults := s.faults.record ⟨k, s.link.cycle, tag, s.gen.position⟩
      groups := (s.raiseInvolved .fault s.own).groups
      barrier := if s.station = .armed then none else s.barrier
      seq := { s.seq with station := .faulted, homed := s.homedAfter k }
      drive := s.pulsed k } := by
  have hactive : s.station ≠ .offline := by
    rcases h with h | h | h | h <;> simp [h]
  rw [s.recordFault_logged k tag hactive]
  have hstation : (s.faultLogged k tag).station = s.station := rfl
  rw [State.told_eq, State.faultStation, hstation]
  rcases h with h | h | h | h <;> rw [h]
  · rfl
  · rfl
  · rfl
  · simp only [State.faultLogged, show s.seq.station = .faulted from h]
    rfl

/-- A running record in motion that a fault stops by braking (R46, R49). -/
theorem State.recordFault_brakes (s : State) (k : FaultKind) (tag : Option Tag) (a : Active)
    (ha : s.seq.active = some a) (hs : s.station = .running) (hi : k.immediate = false)
    (hk : a.work.kind ≠ .dwell) (hg : s.gen.stopsAtOnce = false) :
    s.recordFault k tag = { s with
      faults := s.faults.record ⟨k, s.link.cycle, tag, s.gen.position⟩
      groups := (s.raiseInvolved .fault s.own).groups
      queue := s.queue.unbound
      seq := { s.seq with
        station := .stopping, homed := s.homedAfter k
        active := some { a with
          disposition := some .abort, faultEnded := true, reserved := false, bound := none } }
      gen := s.gen.brake, follow := s.follow.stopped, drive := s.pulsed k } := by
  have hlogged : (s.faultLogged k tag).seq.active = some a := ha
  have hstation : (s.faultLogged k tag).station = s.station := rfl
  rw [s.recordFault_logged k tag (by simp [hs]), State.faultStation, hstation, hs, hi]
  simp only []
  rw [State.beginStop_goesOn _ _ _ a hlogged hk hg, State.told_eq]
  rfl

end Sys2Proof.Machine

/-! ## Proofs: faults from waits, limits, the drive and the link (O9, O11 to O14, O23, O49, O50) -/

namespace Sys2Proof.Machine

theorem State.enterIdle_same (s t : State) (h : t.station = s.station) : s.enterIdle t = t :=
  if_neg fun hc => hc.2 (h ▸ hc.1)

theorem State.activeTag_some (s : State) (a : Active) (ha : s.seq.active = some a) :
    s.activeTag = some a.work.tag := by rw [State.activeTag, ha]; rfl

theorem State.activeKind_some (s : State) (a : Active) (ha : s.seq.active = some a) :
    s.activeKind = some a.work.kind := by rw [State.activeKind, ha]; rfl

/-- An immediate fault from IDLE onward, part by part (R47, R49, R183). -/
theorem State.recordFault_immediate (s : State) (k : FaultKind) (tag : Option Tag) (hrec : s.recordOk)
    (hs : s.station ≠ .offline) (hi : k.immediate = true) : ∃ (q : SegQueue)
    (b : Option BarrierRec) (g : Gen) (h : Homing) (f : Follow),
    s.recordFault k tag = { s with
      faults := s.faults.record ⟨k, s.link.cycle, tag, s.gen.position⟩
      groups := (s.raiseInvolved .fault s.own).groups
      seq := { s.seq with
        station := .faulted, active := none, homed := s.homedAfter k
        lastFinished := match s.seq.active with
          | none => s.seq.lastFinished
          | some a => some (a.work.tag, .faulted) }
      encoder := { s.encoder with
        settle := if s.seq.active.isSome then none else s.encoder.settle }
      queue := q, barrier := b, gen := { g with position := s.gen.position }, homing := h, follow := f
      drive := s.pulsed k } := by
  have hrec : s.seq.active.isSome = s.station.working := hrec
  cases ha : s.seq.active with
  | none =>
    rw [ha] at hrec
    have hstation : s.station = .idle ∨ s.station = .held ∨ s.station = .armed ∨
        s.station = .faulted := by
      cases hst : s.station <;> simp_all [Station.working]
    rw [s.recordFault_standing k tag hstation]
    exact ⟨s.queue, _, s.gen, s.homing, s.follow, by simp only [ha]; rfl⟩
  | some a =>
    rw [ha] at hrec
    have hstation : s.station = .settling ∨ (s.station = .stopping ∧ k.immediate = true) ∨
        (s.station = .running ∧
          (k.immediate = true ∨ a.work.kind = .dwell ∨ s.gen.stopsAtOnce = true)) := by
      cases hst : s.station <;> simp_all [Station.working]
    rw [s.recordFault_ends k tag a ha hstation]
    exact ⟨_, none, s.gen.ceased, .reset, .reset, rfl⟩

/-! ### DRV-FLT (O50) -/

/-- Settles O50: DRIVE_FAULT is an immediate kind, so it acts alike in every state from IDLE onward. -/
theorem driveFaultActsInEveryState : Obligations.DriveFaultActsInEveryState := by
  intro s x hload hx
  have hexec : exec (.drvFltChange x) s = .next (s.drvFltChange x) :=
    congrArg Host.Outcome.next (if_pos ⟨beq_iff_eq.2 hload, hx⟩)
  have hset : s.setDrive { s.drive with drvFlt := x } =
      { s with drive := { s.drive with drvFlt := x } } := rfl
  rw [hexec, State.drvFltChange]
  refine ⟨fun h => ?_, fun htrue hrec hs => ?_⟩
  · cases x with
    | false => rfl
    | true =>
      have hoffline : s.station = .offline := by simpa using h
      exact congrArg Host.Outcome.next (State.recordFault_offline _ _ _ hoffline)
  · subst htrue
    obtain ⟨q, b, g, h, f, heq⟩ := State.recordFault_immediate
      (s.setDrive { s.drive with drvFlt := true }) .driveFault s.activeTag hrec.1 hs rfl
    refine ⟨_, congrArg Host.Outcome.next heq, rfl, rfl, rfl, rfl, rfl, rfl, ?_, ?_, rfl, rfl, rfl⟩
    · unfold State.pulsed
      dsimp only
      split <;> rfl
    · unfold State.pulsed
      cases hclr : s.cfg.clrEnabled <;> simp [hclr, FaultKind.pulses]

/-! ### Limits (O49) -/

theorem exec_limitInputChange (s : State) (side : Side) (x : Bool) (hload : s.loader.load = .loaded)
    (hx : s.limitActive side ≠ x) :
    exec (.limitInputChange side x) s = .next (s.limitChange side x) :=
  congrArg Host.Outcome.next (if_pos ⟨beq_iff_eq.2 hload, hx⟩)

/-- The conditioned state of a limit is the drive's alone. -/
theorem State.setLimit_eq (s : State) (side : Side) (x : Bool) :
    s.setLimit side x = { s with drive := (s.setLimit side x).drive } := by
  cases side <;> rfl

theorem State.limitChange_active (s : State) (side : Side) :
    s.limitChange side true = s.enterIdle ((s.setLimit side true).limitReached side) := rfl

theorem State.setLimit_station (s : State) (side : Side) (x : Bool) :
    (s.setLimit side x).station = s.station := by cases side <;> rfl

theorem State.setLimit_activeKind (s : State) (side : Side) (x : Bool) :
    (s.setLimit side x).activeKind = s.activeKind := by cases side <;> rfl

theorem State.setLimit_steppingToward (s : State) (side d : Side) (x : Bool) :
    (s.setLimit side x).steppingToward d = s.steppingToward d := by cases side <;> rfl

/-- A HOME that does not step toward the limit, or seeks away from it, goes on (R133). -/
theorem State.judgeHomingLimit_ignored (s : State) (side : Side)
    (h : (s.station = .running ∧ s.homing.phase = .seek ∧ side ≠ s.homing.dir) ∨
      (s.station = .stopping ∧ side ≠ s.gen.dir)) : s.judgeHomingLimit side = s := by
  rcases h with ⟨hs, hphase, hside⟩ | ⟨hs, hside⟩
  · rw [State.judgeHomingLimit, if_pos hs, State.homingLimit, hphase]
    cases s.homing.leg
    · exact if_neg hside
    · exact if_neg hside
  · rw [State.judgeHomingLimit, if_neg (by simp [hs]), if_neg fun hc => hside hc.2.symm]

/-- The later phases, and the braking of a HOME, fail at the limit (R133, R135). -/
theorem State.judgeHomingLimit_fails (s : State) (side : Side)
    (h : (s.station = .running ∧ (s.homing.phase = .reverseSeek ∨ s.homing.phase = .clear ∨
        s.homing.phase = .approach ∨ s.homing.phase = .index)) ∨
      (s.station = .stopping ∧ side = s.gen.dir)) : s.judgeHomingLimit side = s.failHoming := by
  rcases h with ⟨hs, hphase⟩ | ⟨hs, hside⟩
  · rw [State.judgeHomingLimit, if_pos hs, State.homingLimit]
    rcases hphase with h | h | h | h <;> rw [h]
  · rw [State.judgeHomingLimit, if_neg (by simp [hs]), if_pos ⟨hs, hside.symm⟩]

/-- A limit that no record steps toward is only recorded (R151). -/
theorem State.limitChange_ignored (s : State) (side : Side) (x : Bool)
    (hk : s.activeKind ≠ some .home) (h : x = false ∨ s.steppingToward side = false) :
    s.limitChange side x = s.setLimit side x := by
  cases x with
  | false => rfl
  | true =>
    have htoward : s.steppingToward side = false := by simpa using h
    have hkept : (s.setLimit side true).limitReached side = s.setLimit side true := by
      rw [State.limitReached, if_neg (by rwa [s.setLimit_activeKind]), State.judgeLimit,
        if_neg (by simp [s.setLimit_steppingToward, htoward])]
    rw [State.limitChange_active, hkept, State.enterIdle_same _ _ (s.setLimit_station side true)]

/-- What a fault leaves of a record that it ends at once (R36, R49, R153, R183). -/
def State.endedBy (s t : State) (k : FaultKind) (a : Active) : Prop :=
  t.seq = s.seq.ended .faulted a.work.tag .faulted ∧ t.gen = s.gen.ceased ∧ t.homing = .reset ∧
  t.stack = s.stack ∧ t.link = s.link ∧ t.peers = s.peers ∧ t.barrier = none ∧
  t.faults = s.faults.record ⟨k, s.link.cycle, some a.work.tag, s.gen.position⟩ ∧
  t.groups = (s.raiseInvolved .fault s.own).groups ∧ t.drive = s.pulsed k

/-- An immediate fault that leaves HOMED ends the record that moves, whole. -/
theorem State.recordFault_endedBy (s : State) (k : FaultKind) (a : Active)
    (ha : s.seq.active = some a) (hs : s.station = .running ∨ s.station = .stopping)
    (hi : k.immediate = true) (hh : k.clearsHomed = false) : s.endedBy (s.faultOfActive k) k a := by
  have hends : s.station = .settling ∨ (s.station = .stopping ∧ k.immediate = true) ∨
      (s.station = .running ∧
        (k.immediate = true ∨ a.work.kind = .dwell ∨ s.gen.stopsAtOnce = true)) := by
    rcases hs with h | h
    · exact .inr (.inr ⟨h, .inl hi⟩)
    · exact .inr (.inl ⟨h, hi⟩)
  have hhomed : s.homedAfter k = s.seq.homed := by simp [State.homedAfter, hh]
  rw [State.faultOfActive, State.recordFault_ends s k _ a ha hends, s.activeTag_some a ha, hhomed]
  exact ⟨rfl, rfl, rfl, rfl, rfl, rfl, rfl, rfl, rfl, rfl⟩

theorem State.endedBy.enterIdle {s t : State} {k : FaultKind} {a : Active} (h : s.endedBy t k a)
    (before : State) : before.enterIdle t = t :=
  before.enterIdle_other t (by rw [State.station, h.1]; simp [Sequencer.ended])

/-- A limit that the record steps toward stops it (R151). -/
theorem State.limitChange_stops (s : State) (side : Side) (a : Active)
    (hk : s.activeKind ≠ some .home) (htoward : s.steppingToward side = true)
    (ha : s.seq.active = some a) :
    (s.setLimit side true).endedBy (s.limitChange side true) (limitFault side) a := by
  have hended := State.recordFault_endedBy (s.setLimit side true) (limitFault side) a
    (by cases side <;> exact ha)
    (by rw [s.setLimit_station]; exact ((s.steppingToward_iff side).1 htoward).1)
    (by cases side <;> rfl) (by cases side <;> rfl)
  rw [State.limitChange_active, State.limitReached, if_neg (by rwa [s.setLimit_activeKind]),
    State.judgeLimit, if_pos (by rwa [s.setLimit_steppingToward]), hended.enterIdle]
  exact hended

/-- The limits a HOME goes on under (R133). -/
theorem State.limitChange_home_ignored (s : State) (side : Side) (x : Bool)
    (hk : s.activeKind = some .home)
    (h : x = false ∨ (s.station = .running ∧ s.homing.phase = .seek ∧ side ≠ s.homing.dir) ∨
      (s.station = .stopping ∧ side ≠ s.gen.dir)) : s.limitChange side x = s.setLimit side x := by
  cases x with
  | false => rfl
  | true =>
    have hignored : (s.setLimit side true).judgeHomingLimit side = s.setLimit side true := by
      refine State.judgeHomingLimit_ignored _ _ ?_
      cases side <;> exact h.resolve_left (by decide)
    rw [State.limitChange_active, State.limitReached, if_pos (by rwa [s.setLimit_activeKind]), hignored,
      State.enterIdle_same _ _ (s.setLimit_station side true)]

/-- The limits a HOME fails at (R133, R135). -/
theorem State.limitChange_home_fails (s : State) (side : Side) (a : Active)
    (ha : s.seq.active = some a) (hk : a.work.kind = .home)
    (h : (s.station = .running ∧ (s.homing.phase = .reverseSeek ∨ s.homing.phase = .clear ∨
        s.homing.phase = .approach ∨ s.homing.phase = .index)) ∨
      (s.station = .stopping ∧ side = s.gen.dir)) :
    (s.setLimit side true).endedBy (s.limitChange side true) .homingFailed a := by
  have hended := State.recordFault_endedBy (s.setLimit side true) .homingFailed a
    (by cases side <;> exact ha)
    (by rw [s.setLimit_station]; exact h.imp And.left And.left) rfl rfl
  have hfails : (s.setLimit side true).judgeHomingLimit side = (s.setLimit side true).failHoming := by
    refine State.judgeHomingLimit_fails _ _ ?_
    cases side <;> exact h
  rw [State.limitChange_active, State.limitReached,
    if_pos (by rw [s.setLimit_activeKind, s.activeKind_some a ha, hk]), hfails, State.failHoming,
    hended.enterIdle]
  exact hended

theorem State.pulsed_of_pulses (s : State) (k : FaultKind) (h : k.pulses = true) :
    s.pulsed k = if s.cfg.clrEnabled = true then
      { s.drive with clear := .pulse, pulseTimer := some s.cfg.clrLength, holdoffTimer := none }
      else s.drive := by
  simp [State.pulsed, h]

/-- Settles O49: a limit is judged by `steppingToward`, and in a HOME by its phase. -/
theorem limitStopsTheRecordThatStepsTowardIt : Obligations.LimitStopsTheRecordThatStepsTowardIt := by
  intro s side x
  refine ⟨fun h => congrArg Host.Outcome.next (if_neg ?_), fun hload hx hk => ?_,
    fun a hload hx ha hk => ?_⟩
  · rintro ⟨hload, hx⟩
    exact h.elim (fun hl => hl (beq_iff_eq.1 hload)) hx
  · rw [exec_limitInputChange s side x hload hx]
    refine ⟨fun h => ?_, fun a htrue htoward ha => ?_⟩
    · rw [s.limitChange_ignored side x hk h]
      cases side <;> rfl
    · subst htrue
      obtain ⟨hseq, hgen, -, hstack, hlink, hpeers, hbarrier, hfaults, hgroups, hdrive⟩ :=
        s.limitChange_stops side a hk htoward ha
      rw [State.pulsed_of_pulses _ _ (by cases side <;> rfl)] at hdrive
      refine ⟨_, rfl, ?_⟩
      cases side <;> exact ⟨hseq, hgen, hstack, hlink, hpeers, hfaults, hgroups, hbarrier, hdrive⟩
  · rw [exec_limitInputChange s side x hload hx]
    refine ⟨fun h => ?_, fun htrue h => ?_⟩
    · rw [s.limitChange_home_ignored side x (by rw [s.activeKind_some a ha, hk]) h]
      cases side <;> rfl
    · subst htrue
      obtain ⟨hseq, hgen, hhoming, hstack, -, -, hbarrier, hfaults, hgroups, hdrive⟩ :=
        s.limitChange_home_fails side a ha hk h
      rw [State.pulsed_of_pulses _ _ rfl] at hdrive
      refine ⟨_, rfl, ?_⟩
      cases side <;> exact ⟨hseq, hgen, hhoming, hstack, hbarrier, hfaults, hgroups, hdrive⟩

/-! ### The counted waits (O14) -/

theorem State.waitOver_eq (s : State) (b : BarrierRec) (hb : s.barrier = some b) (hp : b.phase = .armed)
    (hs : b.start = none) :
    s.waitOver = (decide (b.waitLimit ≠ 0) && decide (b.waitLimit ≤ b.waitCount)) := by
  simp [State.waitOver, hb, hp, hs]

/-- The barrier wait at its limit (R100). -/
theorem State.checkWait_over (s : State) (b : BarrierRec) (hstation : s.station = .armed)
    (hb : s.barrier = some b) (hp : b.phase = .armed) (hs : b.start = none) (hl : b.waitLimit ≠ 0)
    (hc : b.waitLimit ≤ b.waitCount) : s.checkWait = { s with
      faults := s.faults.record ⟨.barrierTimeout, s.link.cycle, none, s.gen.position⟩
      groups := (s.raiseInvolved .fault s.own).groups
      barrier := none
      seq := { s.seq with station := .faulted } } := by
  rw [State.checkWait, if_pos (by simp [s.waitOver_eq b hb hp hs, hl, hc]),
    s.recordFault_standing _ _ (.inr (.inr (.inl hstation))), if_pos hstation]
  rfl

theorem State.checkWait_waits (s : State) (b : BarrierRec) (hb : s.barrier = some b)
    (hp : b.phase = .armed) (hs : b.start = none) (hc : b.waitLimit = 0 ∨ b.waitCount < b.waitLimit) :
    s.checkWait = s := by
  refine if_neg ?_
  rw [s.waitOver_eq b hb hp hs]
  simp only [Bool.and_eq_true, decide_eq_true_eq]
  omega

/-- The settle count at the settle timeout (R160). -/
theorem State.checkSettle_over (s : State) (a : Active) (n : Nat) (hs : s.station = .settling)
    (ha : s.seq.active = some a) (hn : s.encoder.settle = some n) (h : s.cfg.settleTimeout ≤ n) :
    s.checkSettle = { s with
      faults := s.faults.record ⟨.settleTimeout, s.link.cycle, some a.work.tag, s.gen.position⟩
      groups := (s.raiseInvolved .fault s.own).groups
      seq := s.seq.ended .faulted a.work.tag .faulted
      gen := s.gen.ceased, homing := .reset, follow := .reset
      encoder := { s.encoder with settle := none }, barrier := none } := by
  rw [State.checkSettle, if_pos (by simp [State.settleOver, hs, hn, h]), State.faultOfActive,
    s.recordFault_ends _ _ a ha (.inl hs), s.activeTag_some a ha, if_neg (by simp [hs])]
  rfl

theorem State.checkSettle_settles (s : State) (n : Nat) (hn : s.encoder.settle = some n)
    (h : n < s.cfg.settleTimeout) : s.checkSettle = s :=
  if_neg (by simp [State.settleOver, hn]; intro; omega)

theorem State.leaderLost_iff (s : State) (hf : s.follow.phase = .tracking) (hs : s.station = .running) :
    s.leaderLost = true ↔
      s.cfg.lossLimit ≤ s.follow.silence ∨ (s.peer s.follow.leader).presence = .lost := by
  simp [State.leaderLost, State.tracking, hf, hs]

/-- The Follow Unit whose leader is lost (R147). -/
def Follow.leaderless (f : Follow) : Follow :=
  { f with phase := .ceased, owed := 0, remainder := 0, turning := none }

theorem State.loseLeader_eq (s : State) (a : Active) (ha : s.seq.active = some a) :
    s.loseLeader = (s.setFollow s.follow.leaderless).recordFault .followLost (some a.work.tag) := by
  rw [← s.activeTag_some a ha]
  rfl

/-- Settles O14: the three waits, each fault by the station state it finds. -/
theorem countedWaitsFault : Obligations.CountedWaitsFault := by
  refine ⟨fun s b hstation hb hp hs => ⟨fun hl hc => ?_, fun hc => ?_⟩,
    fun s a n hs ha hn => ⟨fun h => ?_, fun h => ?_⟩, fun s a hs ha hk hf => ⟨fun hlost => ?_, fun hlost => ?_⟩⟩
  · exact congrArg Host.Outcome.next (s.checkWait_over b hstation hb hp hs hl hc)
  · exact congrArg Host.Outcome.next (s.checkWait_waits b hb hp hs hc)
  · exact congrArg Host.Outcome.next (s.checkSettle_over a n hs ha hn h)
  · exact congrArg Host.Outcome.next (s.checkSettle_settles n hn h)
  · have hexec : exec .followLost s = .next s.loseLeader :=
      congrArg Host.Outcome.next (if_pos ((s.leaderLost_iff hf hs).2 hlost))
    rw [hexec, s.loseLeader_eq a ha]
    refine ⟨fun hstand => congrArg Host.Outcome.next ?_,
      fun r hflat hr hfast => congrArg Host.Outcome.next ?_⟩
    · have hg : s.gen.stopsAtOnce = true := by unfold Gen.stopsAtOnce; rw [hstand]
      exact State.recordFault_endsRunning (s.setFollow s.follow.leaderless) .followLost _ a ha hs
        (.inr (.inr hg))
    · have hg : s.gen.stopsAtOnce = false :=
        s.gen.stopsAtOnce_of_fast r hr (by simp [hflat]) (by simp [hflat])
          (by rwa [s.gen.stopRate_flat r hflat])
      exact State.recordFault_brakes (s.setFollow s.follow.leaderless) .followLost _ a ha hs rfl
        (by simp [hk]) hg
  · exact congrArg Host.Outcome.next (if_neg fun h => hlost ((s.leaderLost_iff hf hs).1 h))

/-! ### The loss of a peer (O12) -/

theorem State.lossDue_iff (s : State) (a : Nat) : s.lossDue a = true ↔
    a ≠ s.own ∧ (s.peer a).presence = .present ∧ s.cfg.lossLimit ≤ (s.peer a).miss := by
  simp [State.lossDue, and_assoc]

theorem State.checkLeader_of_notTracking (s : State) (h : s.follow.phase ≠ .tracking) :
    s.checkLeader = s := if_neg (by simp [State.leaderLost, State.tracking, h])

theorem State.followerLost_of_notTracking (s : State) (a : Nat) (h : s.follow.phase ≠ .tracking) :
    s.followerLost a = s := by
  unfold State.followerLost
  split
  · exact s.checkLeader_of_notTracking h
  · rfl

theorem State.losePeer_notDue (s : State) (a : Nat) (h : ¬ s.lossDue a = true) : s.losePeer a = s :=
  if_neg h

theorem State.losePeer_due (s : State) (a : Nat) (h : s.lossDue a = true) : s.losePeer a =
    ((s.setPeer a { s.peer a with presence := .lost }).memberLost a).followerLost a := if_pos h

theorem State.memberLost_outsider (s : State) (a : Nat)
    (h : ∀ b, s.barrier = some b → b.mask.getLsbD a = false) : s.memberLost a = s := by
  unfold State.memberLost
  split
  · rfl
  · rename_i b hb
    exact if_neg (by simp [member, h b hb])

theorem State.memberLost_member (s : State) (a : Nat) (b : BarrierRec) (hb : s.barrier = some b)
    (hm : b.mask.getLsbD a = true) (ho : a ≠ s.own) :
    s.memberLost a = s.raiseHalt b.group .peerLost a := by
  rw [State.memberLost, hb]
  exact if_pos ⟨hm, ho⟩

/-- A member lost at an ARMED station halts the group and cancels the arming (R102, R103). -/
theorem State.raiseHalt_armed (s : State) (b : BarrierRec) (c : Cause) (o : Nat)
    (hb : s.barrier = some b) (hs : s.station = .armed) (h1 : 1 ≤ b.group) (h15 : b.group ≤ 15)
    (hl : s.groups.length = 15) (hc : (s.group b.group).condition = .clear) :
    s.raiseHalt b.group c o = { s with
      groups := s.groups.set (b.group - 1)
        ⟨(s.group b.group).epoch + 1, .halted, true, c, some o, s.link.cycle⟩
      barrier := none
      seq := { s.seq with station := .held } } := by
  rw [s.raiseHalt_of_clear b.group c o h1 h15 hl hc, s.raiseInTable_of_clear b.group c o h1 hc]
  exact State.groupBecameHalted_of_armed _ b.group b hs hb rfl

/-- Settles O12: the loss is written first, and the barrier told of it. -/
theorem peerLossActsOnEntryAndBarrier : Obligations.PeerLossActsOnEntryAndBarrier := by
  intro s a hf
  refine ⟨fun ho hp hm => ?_, fun h => ?_⟩
  · have hdue := s.losePeer_due a ((s.lossDue_iff a).2 ⟨ho, hp, hm⟩)
    have hexec : exec (.peerLost a) s = .next (s.losePeer a) := rfl
    rw [hexec, hdue]
    refine ⟨fun hout => ?_, fun b hb hmember hs h1 h15 hl hc => ?_⟩
    · rw [State.memberLost_outsider (s.setPeer a _) a hout,
        State.followerLost_of_notTracking _ _ (by simp [State.setPeer, hf])]
      rfl
    · rw [State.memberLost_member (s.setPeer a { s.peer a with presence := .lost }) a b hb hmember ho,
        State.raiseHalt_armed (s.setPeer a { s.peer a with presence := .lost }) b .peerLost a hb hs h1
          h15 hl hc, State.followerLost_of_notTracking _ _ (by simp [State.setPeer, hf])]
      rfl
  · exact congrArg Host.Outcome.next (s.losePeer_notDue a fun hdue => h ((s.lossDue_iff a).1 hdue))

end Sys2Proof.Machine

/-! ## Proofs: marks, the Peer Table and the parts of a new cycle (O9 to O11, O13, O23) -/

namespace Sys2Proof.Machine

/-! ### The misses of a new cycle (R176) -/

theorem State.peer_setPeer (s : State) (a b : Nat) (e : PeerEntry) (ha : a < s.peers.length) :
    (s.setPeer b e).peer a = if a = b then e else s.peer a := by
  unfold State.peer State.setPeer
  rw [State.setPeers_peers, List.getD_eq_getElem?_getD, List.getD_eq_getElem?_getD, List.getElem?_set]
  by_cases h : a = b
  · subst h
    simp [ha]
  · simp [h, Ne.symm h]

/-- A loss writes its entry, and all that is told of it leaves the table. -/
theorem State.losePeer_peers (s : State) (b : Nat) : (s.losePeer b).peers =
    if s.lossDue b then (s.setPeer b { s.peer b with presence := .lost }).peers else s.peers := by
  unfold State.losePeer
  split
  · exact (outside_parts ((State.followerLost_outside _ b).trans
      (State.memberLost_outside _ b))).2.2.1
  · rfl

theorem State.losePeer_loader (s : State) (b : Nat) : (s.losePeer b).loader = s.loader := by
  unfold State.losePeer
  split
  · exact (outside_parts ((State.followerLost_outside _ b).trans (State.memberLost_outside _ b))).1
  · rfl

theorem State.losePeer_length (s : State) (b : Nat) : (s.losePeer b).peers.length = s.peers.length := by
  rw [s.losePeer_peers]
  split
  · simp [State.setPeer]
  · rfl

theorem State.losePeer_peer (s : State) (a b : Nat) (ha : a < s.peers.length) : (s.losePeer b).peer a =
    if a = b ∧ s.lossDue a = true then { s.peer a with presence := .lost } else s.peer a := by
  have hpeer : (s.losePeer b).peer a = if s.lossDue b then
      (s.setPeer b { s.peer b with presence := .lost }).peer a else s.peer a := by
    unfold State.peer
    rw [s.losePeer_peers]
    split <;> rfl
  rw [hpeer, s.peer_setPeer a b _ ha]
  by_cases h : a = b
  · subst h
    by_cases hd : s.lossDue a = true <;> simp [hd]
  · simp [h]

theorem State.losePeer_lossDue (s : State) (a b : Nat) (ha : a < s.peers.length) (hab : a ≠ b) :
    (s.losePeer b).lossDue a = s.lossDue a := by
  have hpeer : (s.losePeer b).peer a = s.peer a := by
    rw [s.losePeer_peer a b ha, if_neg fun h => hab h.1]
  unfold State.lossDue State.cfg State.own
  rw [hpeer, s.losePeer_loader]

/-- The losses of a list of addresses, seen at one entry. -/
theorem State.losePeers_peer (a : Nat) (l : List Nat) (hl : l.Nodup) (s : State)
    (ha : a < s.peers.length) : (l.foldl State.losePeer s).peer a =
      if a ∈ l ∧ s.lossDue a = true then { s.peer a with presence := .lost } else s.peer a := by
  induction l generalizing s with
  | nil => simp
  | cons b l ih =>
    obtain ⟨hb, hl⟩ := List.nodup_cons.1 hl
    rw [List.foldl_cons, ih hl _ (by rwa [s.losePeer_length])]
    by_cases hab : a = b
    · subst hab
      simp [hb, s.losePeer_peer a a ha]
    · rw [s.losePeer_lossDue a b ha hab, s.losePeer_peer a b ha]
      simp [hab]

/-- One entry judged at a new cycle, short of a loss (R176). -/
theorem State.judgePeers_peer (s : State) (a : Nat) (ha : a < s.peers.length) :
    s.judgePeers.peer a = if a = s.own then (s.peer a).unheard else (s.peer a).judged.unheard := by
  unfold State.peer State.judgePeers
  simp [List.getD_eq_getElem?_getD, ha]

/-- The entry of an address once the misses have been counted (R176). -/
theorem State.countMisses_peer (s : State) (a : Nat) (ha : a < 32) (hl : s.peers.length = 32)
    (hmiss : (s.peer a).presence = .present → (s.peer a).miss < s.cfg.lossLimit) :
    s.countMisses.peer a =
      if a ≠ s.own ∧ (s.peer a).presence = .present ∧ (s.peer a).heard = false then
        { s.peer a with
          presence := if s.cfg.lossLimit ≤ (s.peer a).miss + 1 then .lost else .present
          miss := (s.peer a).miss + 1, heard := false }
      else { s.peer a with heard := false } := by
  have hlen : a < s.judgePeers.peers.length := by simp [State.judgePeers, hl, ha]
  have hjudged := s.judgePeers_peer a (by omega)
  have hown : s.judgePeers.own = s.own := rfl
  have hcfg : s.judgePeers.cfg = s.cfg := rfl
  rw [State.countMisses, State.losePeers_peer a _ List.nodup_range _ hlen]
  simp only [List.mem_range, ha, true_and, State.lossDue_iff, hjudged, hown, hcfg]
  by_cases ho : a = s.own
  · simp [ho, PeerEntry.unheard]
  · by_cases hp : (s.peer a).presence = .present ∧ (s.peer a).heard = false
    · obtain ⟨hp, hh⟩ := hp
      by_cases hk : s.cfg.lossLimit ≤ (s.peer a).miss + 1 <;>
        simp [ho, hp, hh, hk, PeerEntry.unheard, PeerEntry.judged]
    · have hkept : (s.peer a).judged = s.peer a := if_neg hp
      have hnot : ¬ ((s.peer a).presence = .present ∧ s.cfg.lossLimit ≤ (s.peer a).miss) :=
        fun h => absurd (hmiss h.1) (by omega)
      have hgoal : ¬ (a ≠ s.own ∧ (s.peer a).presence = .present ∧ (s.peer a).heard = false) :=
        fun h => hp h.2
      rw [if_neg hgoal, if_neg ho, hkept, if_neg (fun h => hnot h.2)]
      rfl

/-- A new cycle without a loss judges the table and does nothing else. -/
theorem State.countMisses_noLoss (s : State) (h : ∀ a, a < 32 → ¬ s.judgePeers.lossDue a = true) :
    s.countMisses = s.judgePeers := by
  have hfold : ∀ (l : List Nat) (u : State), (∀ a ∈ l, ¬ u.lossDue a = true) →
      l.foldl State.losePeer u = u := by
    intro l
    induction l with
    | nil => exact fun _ _ => rfl
    | cons b l ih =>
      intro u hu
      rw [List.foldl_cons, u.losePeer_notDue b (hu b (by simp))]
      exact ih u fun a ha => hu a (by simp [ha])
  exact hfold _ _ fun a ha => h a (List.mem_range.1 ha)

/-- No loss is due where none stands at the mark (R176). -/
theorem State.countMisses_of_noLoss (s : State) (h : s.noLossAtMark) : s.countMisses = s.judgePeers := by
  refine s.countMisses_noLoss fun a ha hdue => ?_
  obtain ⟨ho, hp, hk⟩ := (State.lossDue_iff _ a).1 hdue
  have hown : s.judgePeers.own = s.own := rfl
  have hcfg : s.judgePeers.cfg = s.cfg := rfl
  rw [hown] at ho
  rw [hcfg] at hk
  by_cases hlen : a < s.peers.length
  · have hjudged := s.judgePeers_peer a hlen
    rw [if_neg ho] at hjudged
    rw [hjudged] at hp hk
    have hpresent : (s.peer a).presence = .present := by
      unfold PeerEntry.judged at hp
      split at hp <;> exact hp
    have hno := h a ha ho hpresent
    cases hh : (s.peer a).heard <;>
      simp [PeerEntry.unheard, PeerEntry.judged, hpresent, hh] at hk hno <;> omega
  · have hnone : s.judgePeers.peer a = .reset := by
      unfold State.peer State.judgePeers
      simp [List.getD_eq_getElem?_getD, hlen]
    rw [hnone] at hp
    cases hp

/-- A station without a barrier record and without a Follow Unit counts its misses in the table alone. -/
theorem State.countMisses_alone (s : State) (hb : s.barrier = none) (hf : s.follow.phase ≠ .tracking) :
    ∃ ps, s.countMisses = s.setPeers ps := by
  have hfold : ∀ (l : List Nat) (ps : List PeerEntry),
      ∃ qs, l.foldl State.losePeer (s.setPeers ps) = s.setPeers qs := by
    intro l
    induction l with
    | nil => exact fun ps => ⟨ps, rfl⟩
    | cons b l ih =>
      intro ps
      rw [List.foldl_cons]
      by_cases hd : (s.setPeers ps).lossDue b = true
      · have hmember : ∀ e, ((s.setPeers ps).setPeer b e).memberLost b = (s.setPeers ps).setPeer b e :=
          fun e => State.memberLost_outsider _ b fun x hx => absurd (hb.symm.trans hx) (by simp)
        have hfollower : ∀ e, ((s.setPeers ps).setPeer b e).followerLost b = (s.setPeers ps).setPeer b e :=
          fun e => State.followerLost_of_notTracking _ b hf
        rw [State.losePeer_due _ b hd, hmember, hfollower]
        exact ih _
      · rw [State.losePeer_notDue _ b hd]
        exact ih ps
  exact hfold _ _

/-! ### The mark that opens a cycle (R166, R167) -/

theorem exec_markHeard_running (s : State) (m : Cycle)
    (h : s.link.state = .joined ∨ s.link.state = .silent) :
    exec (.markHeard m (markCheck m)) s = .next (s.markRunning m) := by
  have hheard : s.hearMark m (markCheck m) = s.markRunning m := by
    rcases h with h | h <;> simp [State.hearMark, h]
  exact congrArg Host.Outcome.next hheard

theorem State.newCycle_eq (s : State) (m : Cycle) (slip : Bool) : s.newCycle m slip =
    (s.setLink { s.link with
      cycle := m, slotTiming := true, slotPasses := false
      markTimer := if s.link.state = .joined then some s.markTimerLength else none
      cycleSlips := if slip then satSucc 255 s.link.cycleSlips else s.link.cycleSlips }).signalCycle
        slip := rfl

theorem State.openedBy_link (s : State) (m : Cycle) : (s.openedBy m).link = { s.link with
    cycle := m, slotTiming := true, slotPasses := false
    markTimer := if s.link.state = .joined then some s.markTimerLength else none
    cycleSlips := if decide (m ≠ s.link.cycle + 1) = true then satSucc 255 s.link.cycleSlips
      else s.link.cycleSlips } := by
  by_cases h : m = s.link.cycle + 1
  · simp only [State.openedBy, h, if_true, ne_eq, not_true, decide_false, Bool.false_eq_true, if_false]
    rfl
  · simp only [State.openedBy, if_neg h, decide_eq_true_eq, if_pos (show m ≠ s.link.cycle + 1 from h)]
    rfl

/-- A mark of another number than the current one opens a cycle, with its slip (R167). -/
theorem State.markRunning_opens (s : State) (m : Cycle) (hm : m ≠ s.link.cycle) : s.markRunning m =
    (s.setLink (s.openedBy m).link).signalCycle (decide (m ≠ s.link.cycle + 1)) := by
  have hopens : s.markRunning m = s.newCycle m (decide (m ≠ s.link.cycle + 1)) := by
    unfold State.markRunning
    by_cases h : m = s.link.cycle + 1
    · rw [if_pos h, decide_eq_false (not_not.2 h)]
    · rw [if_neg h, if_neg hm, decide_eq_true h]
  rw [hopens, State.newCycle_eq, s.openedBy_link m]

theorem State.judgePeers_opened (s : State) (m : Cycle) :
    (s.setLink (s.openedBy m).link).judgePeers = s.openedBy m := by
  have hentry : ∀ (a : Nat) (e : PeerEntry), (if a = s.own then e.unheard else e.judged.unheard) =
      if a ≠ s.own ∧ e.presence = .present ∧ e.heard = false
        then { e with miss := e.miss + 1, heard := false } else { e with heard := false } := by
    intro a e
    by_cases ha : a = s.own
    · simp [ha, PeerEntry.unheard]
    · by_cases hp : e.presence = .present ∧ e.heard = false
      · simp [ha, hp, PeerEntry.unheard, PeerEntry.judged]
      · have hne : ¬ (a ≠ s.own ∧ e.presence = .present ∧ e.heard = false) := fun h => hp h.2
        rw [if_neg ha, if_neg hne, PeerEntry.judged, if_neg hp]
        rfl
  have htable : (s.setLink (s.openedBy m).link).judgePeers =
      { s with
        link := (s.openedBy m).link
        peers := s.peers.mapIdx (fun a e => if a = s.own then e.unheard else e.judged.unheard) } := rfl
  rw [htable]
  simp only [hentry]
  rfl

/-- No loss among the peers: the new cycle leaves the state as it opens. -/
theorem State.countMisses_opened (s : State) (m : Cycle) (h : s.noLossAtMark) :
    (s.setLink (s.openedBy m).link).countMisses = s.openedBy m := by
  rw [State.countMisses_of_noLoss (s.setLink (s.openedBy m).link) h, s.judgePeers_opened m]

/-! ### What counts the mark -/

theorem State.markBarrier_link (s : State) (slip : Bool) : (s.markBarrier slip).link = s.link :=
  (outside_parts (s.markBarrier_outside slip)).2.1

theorem State.markDwell_link (s : State) (slip : Bool) : (s.markDwell slip).link = s.link :=
  (outside_parts (s.markDwell_outside slip)).2.1

theorem State.checkSettle_link (s : State) : s.checkSettle.link = s.link :=
  (outside_parts s.checkSettle_outside).2.1

theorem State.checkLeader_link (s : State) : s.checkLeader.link = s.link :=
  (outside_parts s.checkLeader_outside).2.1

theorem State.markBarrier_peers (s : State) (slip : Bool) : (s.markBarrier slip).peers = s.peers :=
  (outside_parts (s.markBarrier_outside slip)).2.2.1

theorem State.checkSettle_peers (s : State) : s.checkSettle.peers = s.peers :=
  (outside_parts s.checkSettle_outside).2.2.1

theorem State.checkLeader_peers (s : State) : s.checkLeader.peers = s.peers :=
  (outside_parts s.checkLeader_outside).2.2.1

/-- The parts of a new cycle leave the link and, the misses apart, the Peer Table. -/
theorem State.signalCycle_link (s : State) (slip : Bool) : (s.signalCycle slip).link = s.link := by
  unfold State.signalCycle
  split
  · rw [State.countMisses_link, State.markDwell_link]
  · dsimp only
    split
    · rw [State.markBarrier_link, State.countMisses_link]
    · rw [State.countMisses_link]
  · dsimp only
    split
    · rw [State.checkSettle_link, State.countSettle, State.setEncoder_link, State.countMisses_link]
    · rw [State.countMisses_link]
  · dsimp only
    split
    · rw [State.checkLeader_link, State.countSilence, State.setFollow_link, State.countMisses_link]
    · rw [State.countMisses_link]
  · rw [State.countMisses_link]

theorem State.signalCycle_peer (s : State) (slip : Bool) (a : Nat) :
    ∃ u : State, u.loader = s.loader ∧ u.peers = s.peers ∧
      (s.signalCycle slip).peer a = u.countMisses.peer a := by
  unfold State.signalCycle
  split
  · obtain ⟨hloader, -, hpeers, -⟩ := outside_parts (s.markDwell_outside slip)
    exact ⟨_, hloader, hpeers, rfl⟩
  · refine ⟨s, rfl, rfl, ?_⟩
    dsimp only
    split
    · unfold State.peer
      rw [State.markBarrier_peers]
    · rfl
  · refine ⟨s, rfl, rfl, ?_⟩
    dsimp only
    split
    · unfold State.peer
      rw [State.checkSettle_peers, State.countSettle, State.setEncoder_peers]
    · rfl
  · refine ⟨s, rfl, rfl, ?_⟩
    dsimp only
    split
    · unfold State.peer
      rw [State.checkLeader_peers, State.countSilence, State.setFollow_peers]
    · rfl
  · exact ⟨s, rfl, rfl, rfl⟩

/-- Settles O11: whatever else the mark brings about leaves the table as the misses leave it. -/
theorem newCycleJudgesThePeerTable : Obligations.NewCycleJudgesThePeerTable := by
  intro s t m a hl hm hlen ha hmiss hexec
  rw [exec_markHeard_running s m hl, s.markRunning_opens m hm] at hexec
  cases hexec
  obtain ⟨u, hloader, hpeers, hpeer⟩ := State.signalCycle_peer (s.setLink (s.openedBy m).link)
    (decide (m ≠ s.link.cycle + 1)) a
  have hentry : u.peer a = s.peer a := by
    unfold State.peer
    rw [hpeers]
    rfl
  have hown : u.own = s.own := congrArg Loader.address hloader
  have hcfg : u.cfg = s.cfg := congrArg Loader.settings hloader
  rw [hpeer, u.countMisses_peer a ha (by rw [hpeers]; exact hlen) (by rwa [hentry, hcfg]), hentry, hown, hcfg]

end Sys2Proof.Machine

/-! ## Proofs: the four obligations about marks and listening back (O9, O10, O13, O23) -/

namespace Sys2Proof.Machine

/-! ### A DWELL at its mark (O13) -/

/-- A DWELL at the mark of its dwell end, with no work waiting (R38). -/
theorem State.checkDwell_over (s : State) (a : Active) (hs : s.station = .running)
    (ha : s.seq.active = some a) (hk : a.work.kind = .dwell) (hd : a.dwellEnd = some s.link.cycle)
    (hw : s.noWork) : s.checkDwell = { s with
      seq := s.seq.ended .idle a.work.tag .done
      gen := s.gen.ceased, homing := .reset, follow := .reset
      encoder := { s.encoder with settle := none }, barrier := none } := by
  have hover : s.dwellOver = true := by
    simp [State.dwellOver, State.dwellRuns, hs, s.activeKind_some a ha, hk, ha, hd]
  rw [State.checkDwell, if_pos hover, s.endRecord_some _ a ha, State.enterIdle_entered _ _ rfl (by simp [hs])]
  exact State.dispatch_noWork_idle _ hw rfl

theorem State.checkDwell_goesOn (s : State) (a : Active) (ha : s.seq.active = some a)
    (hd : a.dwellEnd ≠ some s.link.cycle) : s.checkDwell = s :=
  if_neg (by simp [State.dwellOver, ha, hd])

theorem State.signalCycle_of_dwell (s : State) (slip : Bool) (hs : s.station = .running)
    (hk : s.activeKind = some .dwell) : s.signalCycle slip = (s.markDwell slip).countMisses := by
  have hwork : s.markWork = .dwell := by simp [State.markWork, State.dwellRuns, hs, hk]
  rw [State.signalCycle, hwork]

/-- Settles O13: a slip faults the DWELL before the misses are counted, and these reach nothing more. -/
theorem dwellEndsAtItsMarkAndFaultsAtASlip : Obligations.DwellEndsAtItsMarkAndFaultsAtASlip := by
  intro s a hs ha hk
  refine ⟨fun hd hw => congrArg Host.Outcome.next (s.checkDwell_over a hs ha hk hd hw),
    fun hd => congrArg Host.Outcome.next (s.checkDwell_goesOn a ha hd), fun m hl hm hslip => ?_⟩
  have hkind : s.activeKind = some .dwell := by rw [s.activeKind_some a ha, hk]
  have hfault := State.recordFault_endsRunning (s.setLink (s.openedBy m).link) .cycleSlip (some a.work.tag) a ha
    hs (.inr (.inl hk))
  have hmark : (s.setLink (s.openedBy m).link).markDwell true =
      (s.setLink (s.openedBy m).link).recordFault .cycleSlip (some a.work.tag) := by
    rw [← State.activeTag_some (s.setLink (s.openedBy m).link) a ha]
    rfl
  rw [exec_markHeard_running s m hl, s.markRunning_opens m hm, decide_eq_true hslip,
    State.signalCycle_of_dwell (s.setLink (s.openedBy m).link) true hs hkind, hmark]
  have hbarrier := congrArg State.barrier hfault
  have hfollow := congrArg State.follow hfault
  obtain ⟨ps, hmisses⟩ := State.countMisses_alone _ hbarrier (by rw [hfollow]; simp [Follow.reset])
  refine ⟨_, rfl, ?_⟩
  rw [hmisses, hfault]
  exact ⟨rfl, (FaultLog.record_spec _ _).1, rfl, rfl, rfl⟩

/-! ### The new cycle by the work under way (O10) -/

section

variable (s : State) (slip : Bool)

theorem State.signalCycle_of_armed_any (hs : s.station = .armed) (hkept : s.countMisses.station = .armed) :
    s.signalCycle slip = s.countMisses.markBarrier slip := by
  have hwork : s.markWork = .barrier := if_pos hs
  rw [State.signalCycle, hwork]
  exact if_pos hkept

theorem State.signalCycle_of_settling (hs : s.station = .settling)
    (hkept : s.countMisses.station = .settling) :
    s.signalCycle slip = s.countMisses.countSettle.checkSettle := by
  have hwork : s.markWork = .settle := by simp [State.markWork, State.dwellRuns, hs]
  rw [State.signalCycle, hwork]
  exact if_pos hkept

theorem State.signalCycle_of_tracking (hs : s.station = .running) (hk : s.activeKind ≠ some .dwell)
    (hf : s.follow.phase = .tracking) (hkept : s.countMisses.tracking = true)
    (hbarrier : s.countMisses.barrier = s.barrier) :
    s.signalCycle slip = s.countMisses.countSilence.checkLeader := by
  have hwork : s.markWork = .follow := by
    simp [State.markWork, State.dwellRuns, State.tracking, hs, hk, hf]
  rw [State.signalCycle, hwork]
  exact if_pos (by simp [hkept, hbarrier])

theorem State.signalCycle_of_noWork (ha : s.station ≠ .armed) (hset : s.station ≠ .settling)
    (hrun : ¬ (s.station = .running ∧ (s.activeKind = some .dwell ∨ s.follow.phase = .tracking))) :
    s.signalCycle slip = s.countMisses := by
  have hwork : s.markWork = .none := by
    by_cases hs : s.station = .running
    · have hnot : ¬ (s.activeKind = some .dwell ∨ s.follow.phase = .tracking) := fun h => hrun ⟨hs, h⟩
      simp_all [State.markWork, State.dwellRuns, State.tracking]
    · simp [State.markWork, State.dwellRuns, State.tracking, ha, hset, hs]
  rw [State.signalCycle, hwork]

end

theorem State.cycle_ne_next (s : State) : s.link.cycle ≠ s.link.cycle + 1 := by bv_omega

/-- The link of a JOINED station after a mark in its turn (R167). -/
theorem State.newCycle_link (s : State) (m : Cycle) (hl : s.link.state = .joined) :
    (s.newCycle m false).link = { s.link with
      cycle := m, slotTiming := true, slotPasses := false, markTimer := some s.markTimerLength } := by
  rw [State.newCycle_eq, State.signalCycle_link, if_pos hl]
  rfl

theorem State.markRunning_repeat (s : State) : s.markRunning s.link.cycle = s.restartTiming := by
  rw [State.markRunning, if_neg s.cycle_ne_next, if_pos rfl]

/-- A DWELL is judged alike before and after the misses of a mark without a loss (R38, R176). -/
theorem State.checkDwell_countMisses (s : State) (a : Active) (hs : s.station = .running)
    (ha : s.seq.active = some a) (hk : a.work.kind = .dwell) (hw : s.noWork) (hno : s.noLossAtMark) :
    s.checkDwell.countMisses = s.judgePeers.checkDwell := by
  by_cases hd : a.dwellEnd = some s.link.cycle
  · rw [s.checkDwell_over a hs ha hk hd hw, State.checkDwell_over s.judgePeers a hs ha hk hd hw]
    exact State.countMisses_of_noLoss _ hno
  · rw [s.checkDwell_goesOn a ha hd, State.checkDwell_goesOn s.judgePeers a ha hd,
      s.countMisses_of_noLoss hno]

theorem State.startDue_iff (s : State) (b : BarrierRec) (hs : s.station = .armed)
    (hb : s.barrier = some b) (hp : b.phase = .armed) :
    s.startDue = true ↔ b.start = some s.link.cycle := by
  simp [State.startDue, hs, hb, hp]

theorem State.countWait_waiting (s : State) (b : BarrierRec) (hb : s.barrier = some b)
    (hp : b.phase = .armed) (hn : b.start = none) :
    s.countWait = s.setBarrier (some { b with waitCount := satSucc 65535 b.waitCount }) := by
  rw [State.countWait, hb]
  exact if_pos ⟨hp, hn⟩

/-- The wait has ended where S is known (R100). -/
theorem State.countWait_known (s : State) (b : BarrierRec) (hb : s.barrier = some b)
    (hk : b.start ≠ none) : s.countWait.checkWait = s := by
  have hcount : s.countWait = s := by
    rw [State.countWait, hb]
    exact if_neg fun h => hk h.2
  rw [hcount, State.checkWait, if_neg]
  simp [State.waitOver, hb, Option.isNone_iff_eq_none, hk]

/-- A mark at an ARMED station, without a loss (R99, R100). -/
theorem State.markBarrier_next (s : State) (b : BarrierRec) (hs : s.station = .armed)
    (hb : s.barrier = some b) (hp : b.phase = .armed) :
    (b.start = some s.link.cycle → s.markBarrier false = s.checkStart) ∧
    (∀ S, b.start = some S → S ≠ s.link.cycle → s.markBarrier false = s) ∧
    (b.start = none → s.markBarrier false =
      (s.setBarrier (some { b with waitCount := satSucc 65535 b.waitCount })).checkWait) := by
  have hdue := s.startDue_iff b hs hb hp
  refine ⟨fun h => ?_, fun S h hne => ?_, fun h => ?_⟩
  · rw [State.markBarrier, if_neg (by simp), if_pos (hdue.2 h), State.checkStart, if_pos (hdue.2 h)]
  · have hnot : ¬ s.startDue = true := fun hd => hne (Option.some.inj (h.symm.trans (hdue.1 hd)))
    rw [State.markBarrier, if_neg (by simp), if_neg hnot, s.countWait_known b hb (by simp [h])]
  · have hnot : ¬ s.startDue = true := fun hd => by simpa [h] using hdue.1 hd
    rw [State.markBarrier, if_neg (by simp), if_neg hnot, s.countWait_waiting b hb hp h]

/-- A slip at an ARMED station (R106, R107). -/
theorem State.markBarrier_slip (s : State) (b : BarrierRec) (hb : s.barrier = some b)
    (hp : b.phase = .armed) : s.markBarrier true =
      if b.start.isSome then s.recordFault .cycleSlip none else s.rearmForSlip b := by
  have hstarted : ¬ b.phase = .started := by simp [hp]
  rw [State.markBarrier, if_pos rfl, State.slipBarrier, hb]
  exact if_neg hstarted

/-- Settles O10: the link first, then the work under way, which the misses of the mark do not reach. -/
theorem marksGiveTheCycleItsNumber : Obligations.MarksGiveTheCycleItsNumber := by
  intro s timer
  refine ⟨fun hl => ?_, fun hl => ?_, fun hl => ?_, fun hl => congrArg Host.Outcome.next (if_neg hl),
    fun m hl hm => ?_, fun m hl hm hno => ?_⟩
  · rw [exec_markHeard_running s _ (.inl hl), s.markRunning_repeat, State.restartTiming, if_pos hl]
    rfl
  · rw [exec_markHeard_running s _ (.inr hl), s.markRunning_repeat, State.restartTiming,
      if_neg (by simp [hl])]
    rfl
  · have hexec : exec .markTimerExpiry s = .next ((s.setLink { s.link with
        markSent := some (markBytes (s.link.cycle + 1)) }).newCycle (s.link.cycle + 1) false) :=
      congrArg Host.Outcome.next (if_pos hl)
    rw [hexec]
    refine ⟨?_, _, rfl, ?_⟩
    · exact ((exec_markHeard_running (s.setLink { s.link with
        markSent := some (markBytes (s.link.cycle + 1)) }) (s.link.cycle + 1) (.inl hl)).trans
        (congrArg Host.Outcome.next (if_pos rfl))).symm
    · exact State.newCycle_link (s.setLink { s.link with
        markSent := some (markBytes (s.link.cycle + 1)) }) (s.link.cycle + 1) hl
  · rw [exec_markHeard_running s m hl, s.markRunning_opens m hm]
    exact ⟨_, rfl, State.signalCycle_link _ _⟩
  · have hmisses := s.countMisses_opened m hno
    have hjudged := s.judgePeers_opened m
    rw [exec_markHeard_running s m hl, s.markRunning_opens m hm]
    refine ⟨fun ha hset hrun => ?_, fun b hs hb hp => ⟨fun hnext => ?_, fun hslip => ?_⟩,
      fun a hs ha hk hw hnext => ?_, fun n hs hn => ?_, fun hs hk hf => ?_⟩
    · rw [State.signalCycle_of_noWork (s.setLink (s.openedBy m).link) _ ha hset hrun, hmisses]
    · obtain ⟨hstart, hother, hwait⟩ := State.markBarrier_next (s.openedBy m) b hs hb hp
      rw [State.signalCycle_of_armed_any (s.setLink (s.openedBy m).link) _ hs (by rw [hmisses]; exact hs),
        hmisses, decide_eq_false (not_not.2 hnext)]
      exact ⟨fun h => congrArg _ (hstart h), fun S h hne => congrArg _ (hother S h hne),
        fun h => congrArg _ (hwait h)⟩
    · rw [State.signalCycle_of_armed_any (s.setLink (s.openedBy m).link) _ hs (by rw [hmisses]; exact hs),
        hmisses, decide_eq_true hslip, State.markBarrier_slip (s.openedBy m) b hb hp]
      refine ⟨fun h => ?_, fun h => ?_⟩
      · rw [if_neg (by simp [h])]
        rfl
      · rw [if_pos (Option.isSome_iff_ne_none.2 h),
          State.recordFault_standing (s.openedBy m) _ _ (.inr (.inr (.inl hs)))]
        exact ⟨_, rfl, rfl, if_pos hs, (FaultLog.record_spec _ _).1, rfl, rfl⟩
    · have hkind : (s.setLink (s.openedBy m).link).activeKind = some .dwell := by
        rw [State.activeKind_some (s.setLink (s.openedBy m).link) a ha, hk]
      have hmark : (s.setLink (s.openedBy m).link).markDwell false =
        (s.setLink (s.openedBy m).link).checkDwell := rfl
      rw [State.signalCycle_of_dwell (s.setLink (s.openedBy m).link) _ hs hkind,
        decide_eq_false (not_not.2 hnext), hmark,
        State.checkDwell_countMisses (s.setLink (s.openedBy m).link) a hs ha hk hw hno, hjudged]
      rfl
    · rw [State.signalCycle_of_settling (s.setLink (s.openedBy m).link) _ hs (by rw [hmisses]; exact hs),
        hmisses, State.countSettle, show (s.openedBy m).encoder.settle = some n from hn]
      rfl
    · have htracking : (s.openedBy m).tracking = true := by
        simp [State.tracking, show (s.openedBy m).follow.phase = .tracking from hf,
          show (s.openedBy m).station = .running from hs]
      rw [State.signalCycle_of_tracking (s.setLink (s.openedBy m).link) _ hs hk hf
        (by rw [hmisses]; exact htracking) (by rw [hmisses]; rfl), hmisses]
      rfl

/-! ### Joining (O9) -/

theorem State.markListening_records (s : State) (m : Cycle) (h : s.link.lastMark ≠ some (m - 1)) :
    s.markListening m = s.clearHeard.setLink { s.link with
      cycle := m, lastMark := some m, slotTiming := true
      silenceTimer := some s.silenceTimerLength } := if_neg h

theorem State.markListening_joins (s : State) (m : Cycle) (h : s.link.lastMark = some (m - 1)) :
    s.markListening m = s.clearHeard.becomeJoined m true := if_pos h

/-- A station without work that joins with no level active becomes IDLE (R27). -/
theorem State.join_of_quiet (s : State) (hs : s.station = .offline) (hw : s.noWork)
    (hd : s.drive.drvFlt = false) (he : s.errorBeyond = false) : s.join = s.setStation .idle := by
  rw [State.join, State.levelTests_of_quiet (s.setStation .idle) hd he,
    s.enterIdle_entered _ rfl (by simp [hs])]
  exact State.dispatch_noWork_idle (s.setStation .idle) hw rfl

/-- A station that joins with DRV-FLT active becomes FAULTED (R152). -/
theorem State.join_of_driveFault (s : State) (hd : s.drive.drvFlt = true) (he : s.errorBeyond = false) :
    s.join.station = .faulted ∧ s.join.faults.current = some .driveFault ∧
      s.join.seq.homed = false ∧ s.join.link = s.link := by
  have hfault := State.recordFault_standing (s.setStation .idle) .driveFault
    (s.setStation .idle).activeTag (.inl rfl)
  have hnoError : ((s.setStation .idle).recordFault .driveFault
      (s.setStation .idle).activeTag).errorBeyond = false := by
    rw [hfault]
    exact he
  have htests : (s.setStation .idle).levelTests =
      (s.setStation .idle).recordFault .driveFault (s.setStation .idle).activeTag := by
    unfold State.levelTests
    rw [if_pos (show (s.setStation .idle).drive.drvFlt = true from hd)]
    exact if_neg (by rw [State.faultOfActive, hnoError]; simp)
  rw [State.join, htests, hfault, State.enterIdle_other _ _ (by simp [State.station])]
  exact ⟨rfl, (FaultLog.record_spec _ _).1, rfl, rfl⟩

theorem State.becomeJoined_of_driveFault (s : State) (cycle : Cycle) (passes : Bool)
    (hd : s.drive.drvFlt = true) (he : s.errorBeyond = false) :
    (s.becomeJoined cycle passes).link.state = .joined ∧
      (s.becomeJoined cycle passes).station = .faulted ∧
      (s.becomeJoined cycle passes).faults.current = some .driveFault ∧
      (s.becomeJoined cycle passes).seq.homed = false := by
  obtain ⟨hstation, hcurrent, hhomed, hlink⟩ := State.join_of_driveFault (s.setLink { s.link with
    state := .joined, cycle := cycle, lastMark := none, slotPasses := passes,
    markTimer := some s.markTimerLength, silenceTimer := none, slotTiming := true }) hd he
  exact ⟨congrArg Link.state hlink, hstation, hcurrent, hhomed⟩

/-- Settles O9: the mark is taken by the link, and the join reported to the sequencer. -/
theorem listeningStationJoins : Obligations.ListeningStationJoins := by
  intro s hl
  have hmark : ∀ m : Cycle, exec (.markHeard m (markCheck m)) s = .next (s.markListening m) := by
    intro m
    simp [exec_markHeard, State.hearMark, hl]
  have hsilence : exec .silenceTimerExpiry s = .next
      (((s.setLink { s.link with markSent := some (markBytes 0) }).clearHeard).becomeJoined 0 false) :=
    congrArg Host.Outcome.next (if_pos hl)
  refine ⟨fun m hm => ?_, fun hs hw hd he => ⟨fun m hm => ?_, ?_⟩, fun hd he => ?_⟩
  · rw [hmark, s.markListening_records m hm]
    rfl
  · rw [hmark, s.markListening_joins m hm]
    exact congrArg Host.Outcome.next (State.join_of_quiet _ hs hw hd he)
  · rw [hsilence]
    exact congrArg Host.Outcome.next (State.join_of_quiet _ hs hw hd he)
  · rw [hsilence]
    exact ⟨_, rfl, State.becomeJoined_of_driveFault
      ((s.setLink { s.link with markSent := some (markBytes 0) }).clearHeard) 0 false hd he⟩

/-! ### Listening back (O23) -/

theorem State.beginStop_none (s : State) (d : Disposition) (immediate faultEnded : Bool)
    (ha : s.seq.active = none) : s.beginStop d immediate faultEnded = s := by
  have hunbound : s.unbind.ceaseFollow.seq.active = none := by
    rw [State.ceaseFollow_eq]
    exact congrArg (Option.map fun a : Active => { a with bound := none }) ha
  unfold State.beginStop
  simp only [hunbound]

theorem Gen.brake_position (g : Gen) : g.brake.position = g.position := by
  unfold Gen.brake
  split <;> rfl

/-- What a fault without a pulse that leaves HOMED does not reach. -/
def State.faultKeeps (s t : State) : Prop :=
  t.link = s.link ∧ t.faults = s.faults ∧ t.drive = s.drive ∧ t.seq.homed = s.seq.homed ∧
    t.gen.position = s.gen.position ∧ (t.station = .idle → False) ∧ (s.station = .idle → t.station = .faulted)

/-- The sequencer on a fault that is not immediate (R49). -/
theorem State.faultStation_keeps (s : State) (hs : s.station ≠ .offline) :
    s.faultKeeps (s.faultStation false) := by
  unfold State.faultStation
  cases h : s.station with
  | offline => exact absurd h hs
  | idle => exact ⟨rfl, rfl, rfl, rfl, rfl, by simp, fun _ => rfl⟩
  | held => exact ⟨rfl, rfl, rfl, rfl, rfl, by simp, by simp [h]⟩
  | armed => exact ⟨rfl, rfl, rfl, rfl, rfl, by simp, by simp [h]⟩
  | faulted => exact ⟨rfl, rfl, rfl, rfl, rfl, by simp [h], by simp [h]⟩
  | stopping =>
    simp only [State.faultWhileStopping, State.ceaseFollow_eq]
    exact ⟨rfl, rfl, rfl, rfl, rfl, by simp [State.station, State.setActive] at *; simp [h], by simp [h]⟩
  | settling =>
    cases ha : s.seq.active with
    | none =>
      simp only [s.endRecord_none _ ha]
      exact ⟨rfl, rfl, rfl, rfl, rfl, by simp [h], by simp [h]⟩
    | some a =>
      simp only [s.endRecord_some _ a ha]
      exact ⟨rfl, rfl, rfl, rfl, rfl, by simp [State.station, Sequencer.ended, Result.station], by simp [h]⟩
  | running =>
    cases ha : s.seq.active with
    | none =>
      simp only [State.beginStop_none _ _ _ _ ha]
      exact ⟨rfl, rfl, rfl, rfl, rfl, by simp [h], by simp [h]⟩
    | some a =>
      by_cases hstands : a.work.kind = .dwell ∨ s.gen.stopsAtOnce = true
      · simp only [s.beginStop_stands _ _ _ a ha (.inr hstands),
          State.reachStandstill_faulted (s.stopOrdered a .abort true) _ rfl rfl,
          State.endRecord_some (s.stopOrdered a .abort true) _ _ rfl]
        exact ⟨rfl, rfl, rfl, rfl, rfl, by simp [State.station, Sequencer.ended, Result.station], by simp [h]⟩
      · rw [s.beginStop_goesOn _ _ a ha (fun hd => hstands (.inl hd))
          (by simpa using fun hg => hstands (.inr hg))]
        exact ⟨rfl, rfl, rfl, rfl, s.gen.brake_position, by simp, by simp [h]⟩

/-- ADDRESS_CONFLICT at any station but an OFFLINE one (R183, R194). -/
theorem State.addressConflict_keeps (s : State) (tag : Option Tag) (hs : s.station ≠ .offline) :
    (s.faultLogged .addressConflict tag).faultKeeps (s.recordFault .addressConflict tag) := by
  rw [s.recordFault_logged _ _ hs, State.told_eq]
  obtain ⟨hlink, hfaults, hdrive, hhomed, hposition, hidle, hfaulted⟩ :=
    State.faultStation_keeps (s.faultLogged .addressConflict tag) hs
  exact ⟨hlink, hfaults, hdrive, hhomed, hposition, hidle, hfaulted⟩

/-- The comparison of the own frame (R174). -/
theorem State.listen_compares (s : State) (sent : List Byte) (heard : Option (List Byte))
    (hl : s.link.state = .joined) (hs : s.link.sending = some sent) : s.listen heard =
      if (s.countListen (decide (heard = some sent))).link.listenFailures = 3 then
        s.enterIdle (s.countListen (decide (heard = some sent))).fallSilent
      else s.countListen (decide (heard = some sent)) := by
  unfold State.listen
  simp only [hl, hs]

/-- Settles O23: only the third failure reaches the Fault Log, and its fault leaves the station out of IDLE. -/
theorem listenBackCountsAndSilences : Obligations.ListenBackCountsAndSilences := by
  intro s sent heard
  have hexec : exec (.listenBack heard) s = .next (s.listen heard) := rfl
  refine ⟨fun hl hs => ?_, fun h => ?_⟩
  · rw [hexec, s.listen_compares sent heard hl hs]
    refine ⟨fun hsame => ?_, fun hother hcount => ?_, fun hother hcount hstation => ?_⟩
    · rw [decide_eq_true hsame, if_neg (by simp [State.countListen])]
      rfl
    · have hraised : satSucc 3 s.link.listenFailures = s.link.listenFailures + 1 := if_pos (by omega)
      have hfailed : s.countListen false = s.setLink { s.link with
          sending := none, listenFailures := s.link.listenFailures + 1 } := by
        rw [← hraised]
        rfl
      rw [decide_eq_false hother, hfailed, if_neg (by simp; omega)]
      rfl
    · have hfailed : (s.countListen false).link.listenFailures = 3 := by
        simp [State.countListen, satSucc, hcount]
      rw [decide_eq_false hother, if_pos hfailed]
      obtain ⟨hlink, hfaults, hdrive, hhomed, hposition, hidle, hfaulted⟩ :=
        State.addressConflict_keeps ((s.countListen false).setLink { (s.countListen false).link with
          state := .silent, query := none, markTimer := none }) s.activeTag hstation
      have hkept : s.enterIdle (s.countListen false).fallSilent = (s.countListen false).fallSilent :=
        s.enterIdle_other _ hidle
      have hsilent : (s.countListen false).fallSilent.link = { s.link with
          sending := none, listenFailures := 3, state := .silent, query := none, markTimer := none } := by
        rw [← hfailed]
        exact hlink
      rw [hkept]
      refine ⟨_, rfl, hsilent, ?_, ?_, hdrive, hhomed, hposition, hfaulted⟩
      · exact (congrArg FaultLog.current hfaults).trans (FaultLog.record_spec _ _).1
      · simp [State.faultOutput, hsilent]
  · rw [hexec]
    unfold State.listen
    split
    · rename_i hl hs
      exact absurd h (by simp [hl, hs])
    · rfl
    · rfl
    · rfl
    · rfl

end Sys2Proof.Machine

/-! ## Proofs: frames (O18 to O20) -/

namespace Sys2Proof.Machine

/-! ### Little-endian fields (R196) -/

theorem leBytes_leNat (l : List Byte) : leBytes l.length (leNat l) = l := by
  induction l with
  | nil => rfl
  | cons b l ih =>
    have hb : b.toNat < 256 := b.isLt
    have hhead : BitVec.ofNat 8 (b.toNat + 256 * leNat l) = b := by
      apply BitVec.eq_of_toNat_eq
      rw [BitVec.toNat_ofNat]
      omega
    have htail : (b.toNat + 256 * leNat l) / 256 = leNat l := by omega
    simp only [leNat, List.length_cons, leBytes, hhead, htail, ih]

/-- A field of `k` bytes is a number's when its value is the number. -/
theorem eq_leBytes_iff (l : List Byte) (k n : Nat) (hl : l.length = k) (hn : n < 256 ^ k) :
    l = leBytes k n ↔ leNat l = n := by
  constructor
  · intro h
    rw [h, leNat_leBytes, Nat.mod_eq_of_lt hn]
  · intro h
    rw [← h, ← hl, leBytes_leNat]

theorem byteAt_zero_cons (b : Byte) (l : List Byte) : byteAt (b :: l) 0 = b := rfl

theorem byteAt_one_cons (b c : Byte) (l : List Byte) : byteAt (b :: c :: l) 1 = c := rfl

/-! ### A frame as sent (O19) -/

section

variable (sender : Nat) (payload : List Byte)

theorem frameOf_eq : frameOf sender payload =
    BitVec.ofNat 8 sender :: BitVec.ofNat 8 payload.length :: (payload ++
      leBytes 4 (crc32 (BitVec.ofNat 8 sender :: BitVec.ofNat 8 payload.length :: payload)).toNat) := rfl

theorem frameLength_frameOf (h : payload.length ≤ 128) :
    frameLength (frameOf sender payload) = payload.length := by
  rw [frameOf_eq, frameLength, byteAt_one_cons, BitVec.toNat_ofNat, Nat.mod_eq_of_lt]
  omega

theorem frameSound_frameOf (h : payload.length ≤ 128) : frameSound (frameOf sender payload) = true := by
  unfold frameSound
  rw [frameLength_frameOf sender payload h, frameOf_eq]
  simp [h]

theorem field_frameOf : field (frameOf sender payload) 2 payload.length = payload := by
  rw [frameOf_eq, field]
  simp

end

theorem messageBytes_length (kind dest : Byte) (body : List Byte) :
    (messageBytes kind dest body).length = body.length + 3 := rfl

/-- A payload is split into the messages it was made from. -/
theorem splitMessages_payloadOf (ms : List Message) (n : Nat) (hn : (payloadOf ms).length ≤ n)
    (hlen : (payloadOf ms).length ≤ 128) : splitMessages n (payloadOf ms) = ms := by
  induction ms generalizing n with
  | nil => cases n <;> rfl
  | cons m ms ih =>
    have hpayload : payloadOf (m :: ms) = messageBytes m.kind m.dest m.body ++ payloadOf ms := rfl
    rw [hpayload, List.length_append, messageBytes_length] at hn hlen
    cases n with
    | zero => omega
    | succ n =>
      have hbody : (BitVec.ofNat 8 m.body.length).toNat = m.body.length := by
        rw [BitVec.toNat_ofNat, Nat.mod_eq_of_lt (by omega)]
      have hrest := ih n (by omega) (by omega)
      rw [hpayload]
      simp [messageBytes, splitMessages, hbody, hrest]

/-- Settles O19: the parts of a frame lie where 13.1 puts them. -/
theorem frameIsReadBackAsWritten : Obligations.FrameIsReadBackAsWritten := by
  intro sender ms hsender hlen
  refine ⟨frameSound_frameOf sender _ hlen, ?_, ?_⟩
  · rw [frameOf_eq, byteAt_zero_cons, BitVec.toNat_ofNat, Nat.mod_eq_of_lt (by omega)]
  · rw [frameMessages, frameLength_frameOf sender _ hlen, field_frameOf]
    exact splitMessages_payloadOf ms _ le_rfl hlen

/-! ### A valid frame (O20) -/

/-- One message of a frame acts as the command it stands for, or not at all (R171). -/
theorem State.handMessage_command (s : State) (sender : Nat) (m : Message) :
    (Message.command sender m = none ∧ s.handMessage sender m = s) ∨
      ∃ c, Message.command sender m = some c ∧ exec c s = .next (s.handMessage sender m) := by
  have hstatus : m.kind = statusCode ↔ m.kind.toNat = 16 := BitVec.toNat_inj.symm
  unfold State.handMessage MsgKind.ofCode Message.command
  by_cases hm : m.kind = statusCode
  · have hcode := hstatus.1 hm
    simp only [hm, if_true]
    exact .inr ⟨_, rfl, rfl⟩
  · have hcode : m.kind.toNat ≠ 16 := fun h => hm (hstatus.2 h)
    rw [if_neg hm]
    split
    case h_12 => simp_all
    all_goals simp_all [exec, execSegment, execFlush, execStop, execContinue, execSetPosition, execHalt,
      execRelease, execClearFault, execQuery, execStationReset, State.handTo]

/-- The messages of a frame act one by one as their commands. -/
theorem State.handMessages_commands (s : State) (sender : Nat) (ms : List Message) :
    runCommands (ms.filterMap (Message.command sender)) s = .next (s.handMessages sender ms) := by
  induction ms generalizing s with
  | nil => rfl
  | cons m ms ih =>
    have hfold : s.handMessages sender (m :: ms) = (s.handMessage sender m).handMessages sender ms := rfl
    rcases s.handMessage_command sender m with ⟨hnone, hkept⟩ | ⟨c, hsome, hexec⟩
    · rw [List.filterMap_cons_none hnone, hfold, hkept, ih]
    · rw [List.filterMap_cons_some hsome, runCommands, hexec, hfold]
      exact ih _

/-- A transmission outside the mark window is checked as a frame (R163, R164). -/
theorem exec_frameReceived_outside (s : State) (since : Nat) (bytes : List Byte)
    (hl : s.link.state ≠ .offline) (hw : ¬ (s.link.slotTiming = true ∧ since < 8000)) :
    exec (.frameReceived false since bytes) s = .next (s.checkFrame since bytes) := by
  have hwindow : ¬ s.inMarkWindow since = true := by simpa [State.inMarkWindow] using hw
  have hheard : s.hearTransmission false since bytes = s.checkFrame since bytes := by
    rw [State.hearTransmission, if_neg hl, if_neg (by simp), if_neg hwindow]
  exact congrArg Host.Outcome.next hheard

theorem State.checkFrame_valid (s : State) (since : Nat) (bytes : List Byte)
    (hsound : frameSound bytes = true) (hown : (byteAt bytes 0).toNat ≠ s.own)
    (hslot : s.slotOf since = some (byteAt bytes 0).toNat) :
    s.checkFrame since bytes = s.validFrame (byteAt bytes 0).toNat bytes := by
  unfold State.checkFrame
  simp only [hsound, hown, hslot]
  simp

/-- Settles O20: the messages of a valid frame are the commands of `runCommands`. -/
theorem validFrameRunsItsMessages : Obligations.ValidFrameRunsItsMessages := by
  intro s since bytes hl hsince hsound hown hslot
  rw [exec_frameReceived_outside s since bytes hl (by omega), s.checkFrame_valid since bytes hsound hown hslot,
    State.validFrame, ← State.handMessages_commands]
  rfl

/-! ### The check of a frame (O18) -/

theorem crc32_eq (bytes : List Byte) :
    crc32 bytes = ~~~(bytes.foldl (fun r b => crcShift8 (r ^^^ b.setWidth 32)) 0xFFFFFFFF#32) := by
  have hfeed : ∀ (l : List Byte) (r : BitVec 32),
      crcFeed r l = l.foldl (fun r b => crcShift8 (r ^^^ b.setWidth 32)) r := by
    intro l
    induction l with
    | nil => exact fun _ => rfl
    | cons b l ih => exact fun r => ih _
  rw [crc32, hfeed]

/-- The length and CRC check of R170, with the CRC field read as a number. -/
theorem frameSound_iff (bytes : List Byte) : frameSound bytes = true ↔
    frameLength bytes ≤ 128 ∧ bytes.length = frameLength bytes + 6 ∧
      fieldNat bytes (frameLength bytes + 2) 4 = (crc32 (bytes.take (frameLength bytes + 2))).toNat := by
  unfold frameSound
  simp only [Bool.and_eq_true, decide_eq_true_eq, and_assoc]
  refine and_congr_right fun _ => and_congr_right fun hlen => ?_
  have hdrop : (bytes.drop (frameLength bytes + 2)).length = 4 := by
    rw [List.length_drop]
    omega
  have hfield : field bytes (frameLength bytes + 2) 4 = bytes.drop (frameLength bytes + 2) := by
    rw [field, List.take_of_length_le (by omega)]
  rw [eq_leBytes_iff _ 4 _ hdrop (BitVec.isLt _), fieldNat, hfield]

/-- The slot of a moment by its two ends, in nanoseconds (R163). -/
theorem State.slotOf_iff (s : State) (since sender : Nat) (hu : 0 < s.cfg.slotUnits) :
    s.slotOf since = some sender ↔
      s.link.slotTiming = true ∧ sender < s.cfg.span ∧ 8000 + sender * (8000 * s.cfg.slotUnits) ≤ since ∧
        since < 8000 + (sender + 1) * (8000 * s.cfg.slotUnits) := by
  have hlength : 1000 * s.cfg.slotLength = 8000 * s.cfg.slotUnits := by
    unfold Settings.slotLength
    omega
  have hdiv : ∀ k, (since - 8000) / (8000 * s.cfg.slotUnits) = k ↔
      k * (8000 * s.cfg.slotUnits) ≤ since - 8000 ∧
        since - 8000 < (k + 1) * (8000 * s.cfg.slotUnits) := by
    intro k
    have hunit : 0 < 8000 * s.cfg.slotUnits := by omega
    rw [Nat.div_eq_iff hunit, Nat.add_mul, Nat.one_mul]
    generalize 8000 * s.cfg.slotUnits = unit at hunit
    omega
  unfold State.slotOf
  cases s.link.slotTiming with
  | false => simp
  | true =>
    have hpos : 0 < (sender + 1) * (8000 * s.cfg.slotUnits) := Nat.mul_pos (by omega) (by omega)
    simp only [Settings.slotAt, hlength, if_true, true_and]
    by_cases hearly : since < 8000
    · rw [if_pos hearly]
      simp only [reduceCtorEq, false_iff]
      omega
    · rw [if_neg hearly]
      constructor
      · intro h
        split at h
        · rename_i hk
          have hsender := (hdiv sender).1 (Option.some.inj h)
          have := Option.some.inj h
          omega
        · cases h
      · rintro ⟨hspan, hlow, hhigh⟩
        have hk := (hdiv sender).2 (by omega)
        rw [hk, if_pos hspan]

/-- The window mark and the frames of a station that is not OFFLINE (R163). -/
theorem exec_frameReceived_window (s : State) (since : Nat) (bytes : List Byte)
    (hl : s.link.state ≠ .offline) (ht : s.link.slotTiming = true) (hs : since < 8000) :
    exec (.frameReceived false since bytes) s = .next (s.windowMark bytes) := by
  have hheard : s.hearTransmission false since bytes = s.windowMark bytes := by
    rw [State.hearTransmission, if_neg hl, if_neg (by simp), if_pos (by simp [State.inMarkWindow, ht, hs])]
  exact congrArg Host.Outcome.next hheard

theorem exec_frameReceived_offline (s : State) (own : Bool) (since : Nat) (bytes : List Byte)
    (hl : s.link.state = .offline) : exec (.frameReceived own since bytes) s = .next s :=
  congrArg Host.Outcome.next (if_pos hl)

theorem State.hearMark_offline (s : State) (m : Cycle) (check : Byte) (hl : s.link.state = .offline) :
    s.hearMark m check = s := by
  unfold State.hearMark
  split
  · rfl
  · rw [hl]

theorem State.listen_offline (s : State) (heard : Option (List Byte)) (hl : s.link.state = .offline) :
    s.listen heard = s := by
  unfold State.listen
  split <;> simp_all

/-- A frame without messages gives presence alone (R176). -/
theorem State.validFrame_empty (s : State) (sender : Nat) (bytes : List Byte)
    (hn : frameLength bytes = 0) :
    s.validFrame sender bytes = s.setPeer sender (s.peer sender).heardFrame := by
  have hnone : frameMessages bytes = [] := by
    rw [frameMessages, hn]
    rfl
  rw [State.validFrame, hnone]
  rfl

theorem State.checkFrame_slot (s : State) (since : Nat) (bytes : List Byte)
    (hsound : frameSound bytes = true)
    (h : (byteAt bytes 0).toNat = s.own ∨ s.slotOf since ≠ some (byteAt bytes 0).toNat) :
    s.checkFrame since bytes = s.dropForSlot := by
  unfold State.checkFrame
  rw [hsound]
  rcases h with h | h <;> simp [h]

/-- Settles O18: the window first, then the checks of R170 in their order. -/
theorem frameCheckDropsOrGivesPresence : Obligations.FrameCheckDropsOrGivesPresence := by
  intro s since bytes
  refine ⟨fun hl own => exec_frameReceived_offline s own since bytes hl, ?_, fun ht hs => ?_,
    fun hl hw hu => ?_⟩
  · by_cases hl : s.link.state = .offline
    · rw [exec_frameReceived_offline s true since bytes hl]
      exact congrArg Host.Outcome.next (s.listen_offline _ hl).symm
    · exact congrArg Host.Outcome.next (by rw [State.hearTransmission, if_neg hl, if_pos rfl])
  · by_cases hl : s.link.state = .offline
    · rw [exec_frameReceived_offline s false since bytes hl]
      exact ⟨fun _ => congrArg Host.Outcome.next (s.hearMark_offline _ _ hl).symm, fun _ => rfl⟩
    · rw [exec_frameReceived_window s since bytes hl ht hs]
      exact ⟨fun h => congrArg Host.Outcome.next (if_pos h), fun h => congrArg Host.Outcome.next (if_neg h)⟩
  · intro shift crc n sound sender slot inOwnSlot
    have hsound : frameSound bytes = true ↔ sound := by
      rw [frameSound_iff, crc32_eq]
      rfl
    have hslot : s.slotOf since = some sender ↔ inOwnSlot := s.slotOf_iff since sender hu
    rw [exec_frameReceived_outside s since bytes hl hw]
    refine ⟨fun h => ?_, fun hok h => ?_, fun hok hown hin hn => ?_⟩
    · have hbad : (!frameSound bytes) = true := by simpa using fun hok => h (hsound.1 hok)
      rw [State.checkFrame, if_pos hbad]
      rfl
    · have hdropped := s.checkFrame_slot since bytes (hsound.2 hok)
        (h.imp_right fun hout hin => hout (hslot.1 hin))
      rw [hdropped]
      rfl
    · rw [s.checkFrame_valid since bytes (hsound.2 hok) hown (hslot.2 hin), State.validFrame_empty _ _ _ hn]
      rfl

end Sys2Proof.Machine

/-! ## Proofs: the Barrier Unit (O15, O16) -/

namespace Sys2Proof.Machine

/-! ### The start of a DWELL (R33, R38, R85) -/

/-- A state whose candidate has been formed into a running DWELL (R33, R38). -/
def State.dwellBegun (s : State) (w : Work) (n : Nat) : State := { s with
  seq := { s.seq with
    station := .running
    active := some ⟨w, none, false, false, none, some (s.link.cycle + BitVec.ofNat 16 n)⟩ } }

theorem State.startCandidate_dwell (s : State) (src : Source) (e : QueueEntry) (n : Nat)
    (h : e.body = .dwell n) :
    s.startCandidate src (.segment e) = (s.takeCandidate src).dwellBegun (.segment e) n := by
  have hlink : (s.takeCandidate src).link = s.link := by cases src <;> rfl
  have hkind : (Work.segment e).kind = .dwell := by simp [Work.kind, h, Body.kind]
  have hnone : ((s.takeCandidate src).formRecord (.segment e)).startFault (.segment e) = none := by
    rw [State.startFault, hkind]
  simp only [State.startCandidate, hnone, State.handWork, h]
  rfl

/-! ### The barrier start (O16) -/

/-- Settles O16: the armed entry is the candidate, and its start is that of a DWELL. -/
theorem barrierDwellStartsAtS : Obligations.BarrierDwellStartsAtS := by
  intro s b e es n hs hb hp he hstack hbody
  have hdue := s.startDue_iff b hs hb hp
  refine ⟨fun hstart => ?_, fun hstart => congrArg Host.Outcome.next (if_neg fun h => hstart (hdue.1 h))⟩
  have hcandidate := s.candidate_queueHead e es he hstack.symm
  have hstarted := State.startCandidate_dwell (s.setBarrier (some { b with phase := .started })) .queueHead e n hbody
  have hbegun : s.checkStart = s.enterIdle
      ((s.setBarrier (some { b with phase := .started })).startCandidate .queueHead (.segment e)) := by
    rw [State.checkStart, if_pos (hdue.2 hstart), State.startBarrier, hcandidate, hb]
  have hexec : exec .barrierStart s = .next s.checkStart := rfl
  rw [hexec, hbegun, hstarted, State.enterIdle_other _ _ (by simp [State.dwellBegun, State.station])]
  simp only [State.takeCandidate, State.setBarrier_queue, he]
  rfl

/-! ### The members of a mask (R89) -/

theorem getLsbD_address (k i : Nat) (hi : i < 32) : (1#32 <<< k).getLsbD i = decide (i = k) := by
  simp only [BitVec.getLsbD_shiftLeft, BitVec.getLsbD_one, hi, decide_true, Bool.true_and]
  by_cases h : i = k
  · simp [h]
  · by_cases hlt : i < k
    · simp [hlt, h]
    · have : i - k ≠ 0 := by omega
      simp [h, this]

theorem State.mem_otherMembers (s : State) (b : BarrierRec) (m : Nat) :
    m ∈ s.otherMembers b ↔ m < 32 ∧ m ≠ s.own ∧ b.mask.getLsbD m = true := by
  simp [State.otherMembers, members, member]

/-- A list of addresses that holds one alone. -/
theorem filter_range_eq_singleton (p : Nat → Bool) (m : Nat) (hm : m < 32)
    (h : ∀ x, x < 32 → (p x = true ↔ x = m)) : (List.range 32).filter p = [m] := by
  have hcongr : (List.range 32).filter p = (List.range 32).filter (· == m) := by
    refine List.filter_congr fun x hx => ?_
    rw [Bool.eq_iff_iff, h x (List.mem_range.1 hx), beq_iff_eq]
  rw [hcongr, List.filter_beq, List.count_eq_one_of_mem List.nodup_range (List.mem_range.2 hm)]
  rfl

/-- The lowest address of a list of addresses stands first. -/
theorem filter_range_eq_cons (p : Nat → Bool) (m : Nat) (hm : m < 32) (hp : p m = true)
    (hlow : ∀ x, x < m → p x = false) : ∃ rest, (List.range 32).filter p = m :: rest := by
  have hmem : m ∈ (List.range 32).filter p := List.mem_filter.2 ⟨List.mem_range.2 hm, hp⟩
  have hsorted : ((List.range 32).filter p).Pairwise (· < ·) := List.pairwise_lt_range.filter p
  cases hlist : (List.range 32).filter p with
  | nil => simp [hlist] at hmem
  | cons x rest =>
    rw [hlist] at hmem hsorted
    have hx : p x = true := (List.mem_filter.1 (hlist ▸ List.mem_cons_self : x ∈ (List.range 32).filter p)).2
    rcases List.mem_cons.1 hmem with h | h
    · exact ⟨rest, by rw [h]⟩
    · have hlt := (List.pairwise_cons.1 hsorted).1 m h
      rw [hlow x hlt] at hx
      cases hx

theorem State.otherMembers_eq (s : State) (b : BarrierRec) : s.otherMembers b =
    (List.range 32).filter (fun m => decide (m ≠ s.own) && b.mask.getLsbD m) := by
  rw [State.otherMembers, members, List.filter_filter]
  rfl

theorem State.lostMembers_eq (s : State) (b : BarrierRec) : s.lostMembers b =
    (List.range 32).filter (fun m => decide ((s.peer m).presence = .lost) &&
      (decide (m ≠ s.own) && b.mask.getLsbD m)) := by
  rw [State.lostMembers, s.otherMembers_eq b, List.filter_filter]

/-! ### Reading the members (R94 to R98) -/

theorem State.readMembers_eq (s : State) (b : BarrierRec) (hb : s.barrier = some b)
    (hp : b.phase = .armed) (hs : b.start = none) : s.readMembers =
      if ((s.otherMembers b).map (s.judgeMember b)).contains .mismatch then
        s.recordFault .barrierMismatch none
      else if ((s.otherMembers b).map (s.judgeMember b)).all (fun j => j.since?.isSome) then
        s.computeStart b (((s.otherMembers b).map (s.judgeMember b)).filterMap Judgement.since?)
      else s := by
  rw [State.readMembers, hb]
  exact if_neg (by simp [hp, hs])

/-- A barrier record that is read by the station alone (R97). -/
theorem State.readMembers_alone (s : State) (b : BarrierRec) (hb : s.barrier = some b)
    (hp : b.phase = .armed) (hs : b.start = none) (hnone : s.otherMembers b = [])
    (hlead : age s.link.cycle b.since < s.cfg.lead) : s.readMembers =
      s.setBarrier (some { b with start := some (b.since + BitVec.ofNat 16 s.cfg.lead) }) := by
  rw [s.readMembers_eq b hb hp hs, hnone]
  have hnotLate : ¬ s.cfg.lead ≤ age s.link.cycle (latestSince s.link.cycle b.since []) := by
    rw [latestSince, List.foldl_nil]
    omega
  exact if_neg hnotLate

/-- No member is ready (R95). -/
theorem State.readMembers_notReady (s : State) (b : BarrierRec) (hb : s.barrier = some b)
    (hp : b.phase = .armed) (hs : b.start = none) (hsome : s.otherMembers b ≠ [])
    (hno : ∀ m ∈ s.otherMembers b, s.judgeMember b m = .notReady) : s.readMembers = s := by
  have hall : (s.otherMembers b).map (s.judgeMember b) =
      List.replicate (s.otherMembers b).length .notReady := by
    rw [List.eq_replicate_iff]
    simpa using hno
  obtain ⟨n, hn⟩ := Nat.exists_eq_succ_of_ne_zero (mt List.length_eq_zero_iff.1 hsome)
  rw [s.readMembers_eq b hb hp hs, hall, hn, if_neg (by simp), if_neg]
  simp [List.replicate_succ, Judgement.since?]

/-- The only other member, by its judgement (R95 to R98). -/
theorem State.readMembers_one (s : State) (b : BarrierRec) (m : Nat) (hb : s.barrier = some b)
    (hp : b.phase = .armed) (hs : b.start = none) (hone : s.otherMembers b = [m]) :
    (s.judgeMember b m = .notReady → s.readMembers = s) ∧
    (s.judgeMember b m = .mismatch → s.readMembers = s.recordFault .barrierMismatch none) ∧
    (∀ c, s.judgeMember b m = .ready c → s.readMembers = s.computeStart b [c]) := by
  rw [s.readMembers_eq b hb hp hs, hone]
  refine ⟨fun h => ?_, fun h => ?_, fun c h => ?_⟩
  · simp [h, Judgement.since?]
  · simp [h]
  · simp [h, Judgement.since?]

/-! ### Arming (R90, R102, R103) -/

/-- The barrier record formed at arming, with its station ARMED. -/
def State.armedWith (s : State) (b : BarrierRec) : State := (s.setBarrier (some b)).setStation .armed

theorem State.arm_reads (s : State) (g : Nat) (k : BarrierBlock)
    (h : (s.armedWith (s.armedRecord g k)).lostMembers (s.armedRecord g k) = []) :
    s.arm g k = (s.armedWith (s.armedRecord g k)).readMembers := by
  have harm : s.arm g k = match (s.armedWith (s.armedRecord g k)).lostMembers (s.armedRecord g k) with
    | [] => (s.armedWith (s.armedRecord g k)).readMembers
    | lost => (lost.foldl (fun u m => u.raiseInTable g .peerLost m)
        (s.armedWith (s.armedRecord g k))).cancelArming := rfl
  rw [harm, h]

/-- Once a group is HALTED the other lost members raise nothing (R114). -/
theorem State.raiseLost_of_halted (s : State) (g : Nat) (ms : List Nat)
    (h : (s.group g).condition = .halted) :
    ms.foldl (fun u m => u.raiseInTable g .peerLost m) s = s := by
  induction ms with
  | nil => rfl
  | cons m ms ih => rw [List.foldl_cons, s.raiseInTable_of_halted g _ _ h, ih]

/-- The lowest lost member halts the group, and the arming is cancelled (R102, R103). -/
theorem State.arm_cancels (s : State) (g : Nat) (k : BarrierBlock) (m : Nat) (rest : List Nat)
    (hlost : (s.armedWith (s.armedRecord g k)).lostMembers (s.armedRecord g k) = m :: rest)
    (h1 : 1 ≤ g) (hl : g ≤ s.groups.length) (hc : (s.group g).condition = .clear) :
    s.arm g k = { s with
      groups := s.groups.set (g - 1) ⟨(s.group g).epoch + 1, .halted, true, .peerLost, some m, s.link.cycle⟩
      barrier := none
      seq := { s.seq with station := .held } } := by
  have harm : s.arm g k = match (s.armedWith (s.armedRecord g k)).lostMembers (s.armedRecord g k) with
    | [] => (s.armedWith (s.armedRecord g k)).readMembers
    | lost => (lost.foldl (fun u m => u.raiseInTable g .peerLost m)
        (s.armedWith (s.armedRecord g k))).cancelArming := rfl
  have hhalted : (((s.armedWith (s.armedRecord g k)).raiseInTable g .peerLost m).group g).condition =
      .halted := by
    rw [State.group_raiseInTable_of_clear (s.armedWith (s.armedRecord g k)) g _ _ h1 hl hc]
  rw [harm, hlost]
  simp only [List.foldl_cons]
  rw [State.raiseLost_of_halted _ g rest hhalted,
    State.raiseInTable_of_clear (s.armedWith (s.armedRecord g k)) g _ _ h1 hc]
  rfl

/-- A member confirmed at arming and not PRESENT is not ready (R95). -/
theorem State.judgeMember_absent (s : State) (b : BarrierRec) (m : Nat)
    (h : (s.peer m).presence ≠ .present) : s.judgeMember b m = .notReady := by
  rw [State.judgeMember, if_pos h, ite_self]

/-! ### A heard vector that is the table's own (R119) -/

theorem later8_self (e : Epoch) : later8 e e = false := by
  simp [later8, dist8_self]

theorem State.hearVector_of_agrees (s : State) (p : PeerStatus) (a : Nat) (h : s.agrees p) :
    s.hearVector p a = s := by
  have htable : s.groups.mapIdx (fun i x =>
      x.hear (heardState p i).1 (heardState p i).2 a s.link.cycle) = s.groups := by
    refine List.ext_getElem (by simp) fun i hi hlen => ?_
    obtain ⟨hsync, hepoch, hhalted⟩ := h i hlen
    have hget : s.groups.getD i .reset = s.groups[i] := List.getD_eq_getElem _ _ hlen
    rw [hget] at hsync hepoch hhalted
    have hcondition : (heardState p i).2 = s.groups[i].condition := by
      unfold heardState
      cases hc : s.groups[i].condition <;> simp_all
    rw [List.getElem_mapIdx, GroupEntry.hear, if_neg]
    have hstate : (heardState p i).1 = s.groups[i].epoch := hepoch
    rw [hsync, hstate, hcondition, laterState, later8_self]
    cases s.groups[i].condition <;> simp
  rw [State.hearVector, htable]
  rfl

theorem State.adopt_of_agrees (s : State) (p : PeerStatus) (a : Nat) (h : s.agrees p) :
    s.adopt p a = s := by
  rw [State.adopt, s.hearVector_of_agrees p a h, s.tellChanges_self]

/-! ### Advertisements (R95) -/

section

variable (b : BarrierRec) (a : Advertisement)

theorem BarrierRec.judgeAdv_other (h : a.present = false ∨ a.group.toNat ≠ b.group) :
    b.judgeAdv a = .notReady := if_pos (by rcases h with h | h <;> simp [h])

theorem BarrierRec.judgeAdv_same (hp : a.present = true) (hg : a.group.toNat = b.group)
    (hn : a.number = b.number) (he : a.epoch = b.epoch) :
    b.judgeAdv a = if a.mask = b.mask then .ready a.since else .mismatch := by
  rw [BarrierRec.judgeAdv, if_neg (by simp [hp, hg]), if_pos ⟨hn, he⟩]

theorem BarrierRec.judgeAdv_later (hp : a.present = true) (hg : a.group.toNat = b.group)
    (hl : later8 a.number b.number = true) : b.judgeAdv a = .mismatch := by
  have hother : ¬ (a.number = b.number ∧ a.epoch = b.epoch) := by
    rintro ⟨hn, -⟩
    rw [hn, later8_self] at hl
    cases hl
  rw [BarrierRec.judgeAdv, if_neg (by simp [hp, hg]), if_neg hother, if_pos hl]

theorem BarrierRec.judgeAdv_notLater (hs : ¬ (a.number = b.number ∧ a.epoch = b.epoch))
    (hl : later8 a.number b.number = false) : b.judgeAdv a = .notReady := by
  unfold BarrierRec.judgeAdv
  rw [if_neg hs, hl]
  exact ite_self _

end

/-! ### A STATUS that a member of the barrier sends (R94, R177) -/

theorem State.followStatus_of_notRunning (s : State) (a : Nat) (p : Position)
    (h : s.station ≠ .running) : s.followStatus a p = s := if_neg (by simp [State.tracking, h])

/-- A STATUS whose vector is the table's own, at a station whose barrier it concerns. -/
theorem exec_status_of_member (s : State) (sender : Nat) (dest : Byte) (body : List Byte) (b : BarrierRec)
    (p : PeerStatus) (hl : s.link.state = .joined) (hb : s.barrier = some b) (hp : b.phase = .armed)
    (ho : sender ≠ s.own) (hm : b.mask.getLsbD sender = true) (hbody : statusOf body = some p)
    (hv : s.agrees p) : exec (.status sender dest body) s =
      .next ((((s.setPeer sender { s.peer sender with status := some p }).setBarrier
        (some { b with confirmed := b.confirmed ||| maskOf sender })).readMembers).followStatus sender
          p.position) := by
  have htaken : s.takeStatus sender body = s.readStatus sender p := by
    rw [State.takeStatus, hbody]
    exact if_neg ho
  have hread : (s.setPeer sender { s.peer sender with status := some p }).readStatusOf sender =
      ((s.setPeer sender { s.peer sender with status := some p }).setBarrier
        (some { b with confirmed := b.confirmed ||| maskOf sender })).readMembers := by
    have hbarrier : (s.setPeer sender { s.peer sender with status := some p }).barrier = some b := hb
    rw [State.readStatusOf, hbarrier]
    exact if_pos ⟨hp, hm, ho⟩
  have hadopted := State.adopt_of_agrees (s.setPeer sender { s.peer sender with status := some p }) p sender hv
  have hexec : exec (.status sender dest body) s = .next (s.takeStatus sender body) :=
    congrArg Host.Outcome.next (if_pos (by simp [State.takesStatus, hl]))
  rw [hexec, htaken, State.readStatus, hadopted, hread]

/-- S would be late (R98). -/
theorem State.computeStart_late (s : State) (b : BarrierRec) (others : List Cycle)
    (h : s.cfg.lead ≤ age s.link.cycle (latestSince s.link.cycle b.since others)) :
    s.computeStart b others = s.recordFault .barrierLate none := if_pos h

/-- S is the latest since-cycle plus the lead (R97). -/
theorem State.computeStart_known (s : State) (b : BarrierRec) (others : List Cycle)
    (h : age s.link.cycle (latestSince s.link.cycle b.since others) < s.cfg.lead) :
    s.computeStart b others = s.setBarrier (some { b with
      start := some (latestSince s.link.cycle b.since others + BitVec.ofNat 16 s.cfg.lead) }) :=
  if_neg (Nat.not_le.2 h)

/-- A fault at an ARMED station (R49). -/
theorem State.recordFault_armed (s : State) (k : FaultKind) (tag : Option Tag) (hs : s.station = .armed) :
    (s.recordFault k tag).barrier = none ∧ (s.recordFault k tag).station = .faulted ∧
      (s.recordFault k tag).faults.current = some k := by
  rw [s.recordFault_standing k tag (.inr (.inr (.inl hs)))]
  exact ⟨if_pos hs, rfl, (FaultLog.record_spec _ _).1⟩

/-- Arming by a CONTINUE (R50, R90). -/
theorem exec_resume_arms (s : State) (sender : Nat) (dest : Byte) (e : QueueEntry) (es : List QueueEntry)
    (k : BarrierBlock) (ha : s.addressed dest) (hs : s.station = .idle) (hp : s.seq.paused = true)
    (hd : s.drive.clear = .none) (hstack : s.stack.residuals = []) (he : s.queue.entries = e :: es)
    (hk : e.barrier = some k) (hc : (s.group e.group).condition = .clear) :
    exec (.resume sender dest []) s = .next ((s.setSeq { s.seq with paused := false }).arm e.group k) := by
  have hcandidate := State.candidate_queueHead (s.setSeq { s.seq with paused := false }) e es he (.inr hstack)
  have hopen := State.gate_of_open (s.setSeq { s.seq with paused := false }) (.segment e) (.inl rfl)
    (by simp [State.groupHalted, Work.group, State.group] at hc ⊢; simp [hc]) hd
  have hgate : (s.setSeq { s.seq with paused := false }).gate (.segment e) = .arm k := by
    rw [hopen, show (Work.segment e).barrier = some k from hk]
    rfl
  have htaken : s.takeContinue [] = (s.setSeq { s.seq with paused := false }).dispatch := by
    rw [State.takeContinue, if_neg (by simp), if_pos hp]
  rw [exec_resume_of_addressed s sender dest [] ha, htaken,
    State.dispatch_arms (s.setSeq { s.seq with paused := false }) (.inl hs) hcandidate hgate]
  rfl

/-- The station is the barrier's only member: S at once (R90, R97). -/
theorem State.arm_alone (s : State) (g : Nat) (k : BarrierBlock) (hmask : k.mask = 1#32 <<< s.own)
    (hlead : 0 < s.cfg.lead) : s.arm g k = { s with
      seq := { s.seq with station := .armed }
      barrier := some { s.armedRecord g k with
        start := some (s.link.cycle + BitVec.ofNat 16 s.cfg.lead) } } := by
  have hnone : (s.armedWith (s.armedRecord g k)).otherMembers (s.armedRecord g k) = [] := by
    refine List.eq_nil_iff_forall_not_mem.2 fun m hmem => ?_
    obtain ⟨hm, ho, hbit⟩ := (State.mem_otherMembers _ _ m).1 hmem
    rw [show (s.armedRecord g k).mask = 1#32 <<< s.own from hmask, getLsbD_address _ _ hm,
      decide_eq_true_eq] at hbit
    exact ho hbit
  have hage : age s.link.cycle s.link.cycle = 0 := by simp [age, dist16]
  rw [s.arm_reads g k (by rw [State.lostMembers, hnone]; rfl),
    State.readMembers_alone _ _ rfl rfl rfl hnone (hage.trans_lt hlead)]
  rfl

/-- No other member is heard of: S stays absent (R90, R95). -/
theorem State.arm_waits (s : State) (g : Nat) (k : BarrierBlock)
    (hsome : ∃ m, m < 32 ∧ m ≠ s.own ∧ k.mask.getLsbD m = true)
    (hunknown : ∀ m, m < 32 → m ≠ s.own → k.mask.getLsbD m = true → (s.peer m).presence = .unknown) :
    s.arm g k = { s with
      seq := { s.seq with station := .armed }, barrier := some (s.armedRecord g k) } := by
  have habsent : ∀ m ∈ (s.armedWith (s.armedRecord g k)).otherMembers (s.armedRecord g k),
      ((s.armedWith (s.armedRecord g k)).peer m).presence = .unknown := by
    intro m hmem
    obtain ⟨hm, ho, hbit⟩ := (State.mem_otherMembers _ _ m).1 hmem
    exact hunknown m hm ho hbit
  obtain ⟨m, hm⟩ := hsome
  rw [s.arm_reads g k, State.readMembers_notReady _ _ rfl rfl rfl]
  · rfl
  · exact List.ne_nil_of_mem ((State.mem_otherMembers _ _ m).2 hm)
  · exact fun x hx => State.judgeMember_absent _ _ x (by simp [habsent x hx])
  · exact List.filter_eq_nil_iff.2 fun x hx => by simp [habsent x hx]

/-- A member is LOST already, and none below it (R102, R103). -/
theorem State.arm_lost (s : State) (g : Nat) (k : BarrierBlock) (m : Nat) (hm : m < 32) (ho : m ≠ s.own)
    (hbit : k.mask.getLsbD m = true) (hlost : (s.peer m).presence = .lost)
    (hlow : ∀ x, x < m → x ≠ s.own → k.mask.getLsbD x = true → (s.peer x).presence ≠ .lost)
    (h1 : 1 ≤ g) (hl : g ≤ s.groups.length) (hc : (s.group g).condition = .clear) :
    s.arm g k = { s with
      groups := s.groups.set (g - 1) ⟨(s.group g).epoch + 1, .halted, true, .peerLost, some m, s.link.cycle⟩
      barrier := none
      seq := { s.seq with station := .held } } := by
  have hfirst : ∀ x, x < m → (decide ((s.peer x).presence = .lost) &&
      (decide (x ≠ s.own) && k.mask.getLsbD x)) = false := by
    intro x hx
    by_cases hin : x ≠ s.own ∧ k.mask.getLsbD x = true
    · simp [hlow x hx hin.1 hin.2]
    · have : (decide (x ≠ s.own) && k.mask.getLsbD x) = false := by
        rw [← Bool.not_eq_true, Bool.and_eq_true, decide_eq_true_eq]
        exact hin
      rw [this, Bool.and_false]
  obtain ⟨rest, hrest⟩ := filter_range_eq_cons _ m hm (by simp [hlost, ho, hbit]) hfirst
  exact s.arm_cancels g k m rest ((State.lostMembers_eq _ _).trans hrest) h1 hl hc

/-- The only other member, after its STATUS (R94, R95). -/
theorem State.judgeMember_heard (s : State) (b : BarrierRec) (m : Nat) (p : PeerStatus)
    (hm : m < 32) (hlen : s.peers.length = 32) (hpresent : (s.peer m).presence = .present) :
    ((s.setPeer m { s.peer m with status := some p }).setBarrier
        (some { b with confirmed := b.confirmed ||| maskOf m })).judgeMember
      { b with confirmed := b.confirmed ||| maskOf m } m = b.judgeAdv p.adv := by
  have hpeer := s.peer_setPeer m m { s.peer m with status := some p } (by omega)
  rw [if_pos rfl] at hpeer
  have hconfirmed : member (b.confirmed ||| maskOf m) m = true := by
    rw [member, BitVec.getLsbD_or, maskOf, getLsbD_address m m hm]
    simp
  have hentry : ((s.setPeer m { s.peer m with status := some p }).setBarrier
      (some { b with confirmed := b.confirmed ||| maskOf m })).peer m =
        { s.peer m with status := some p } := hpeer
  unfold State.judgeMember
  rw [hentry, if_neg (by simp [hconfirmed]), if_neg (by simp [hpresent])]
  rfl

/-- The state in which the members are read after a STATUS of one of them (R94, R177). -/
def State.heardMember (s : State) (b : BarrierRec) (sender : Nat) (p : PeerStatus) : State :=
  (s.setPeer sender { s.peer sender with status := some p }).setBarrier
    (some { b with confirmed := b.confirmed ||| maskOf sender })

section

variable (s : State) (sender : Nat) (dest : Byte) (body : List Byte) (b : BarrierRec) (p : PeerStatus)
  (hlink : s.link.state = .joined) (hs : s.station = .armed) (hb : s.barrier = some b)
  (hp : b.phase = .armed) (hstart : b.start = none) (hsender : sender < 32) (ho : sender ≠ s.own)
  (hlen : s.peers.length = 32) (hmask : b.mask = 1#32 <<< s.own ||| 1#32 <<< sender)
  (hpresent : (s.peer sender).presence = .present) (hbody : statusOf body = some p) (hv : s.agrees p)

include hsender ho hmask in
theorem State.otherMembers_two : (s.heardMember b sender p).otherMembers
    { b with confirmed := b.confirmed ||| maskOf sender } = [sender] := by
  have hbit : ∀ x, x < 32 → (b.mask.getLsbD x = true ↔ x = s.own ∨ x = sender) := by
    intro x hx
    rw [hmask, BitVec.getLsbD_or, getLsbD_address _ _ hx, getLsbD_address _ _ hx]
    simp
  rw [State.otherMembers_eq]
  refine filter_range_eq_singleton _ sender hsender fun x hx => ?_
  rw [Bool.and_eq_true, decide_eq_true_eq, hbit x hx]
  exact ⟨fun h => h.2.resolve_left h.1, fun h => ⟨by rw [h]; exact ho, .inr h⟩⟩

include hlink hs hb hp hstart hsender ho hlen hmask hpresent hbody hv in
/-- A STATUS of the one other member, by its judgement (R94 to R98). -/
theorem exec_status_judged :
    (b.judgeAdv p.adv = .notReady →
      exec (.status sender dest body) s = .next (s.heardMember b sender p)) ∧
    (b.judgeAdv p.adv = .mismatch → ∃ t, exec (.status sender dest body) s = .next t ∧
      t.barrier = none ∧ t.station = .faulted ∧ t.faults.current = some .barrierMismatch) ∧
    (∀ c, b.judgeAdv p.adv = .ready c →
      s.cfg.lead ≤ age s.link.cycle (latestSince s.link.cycle b.since [c]) →
      ∃ t, exec (.status sender dest body) s = .next t ∧
        t.barrier = none ∧ t.station = .faulted ∧ t.faults.current = some .barrierLate) ∧
    (∀ c, b.judgeAdv p.adv = .ready c →
      age s.link.cycle (latestSince s.link.cycle b.since [c]) < s.cfg.lead →
      exec (.status sender dest body) s = .next ((s.heardMember b sender p).setBarrier (some { b with
        confirmed := b.confirmed ||| maskOf sender
        start := some (latestSince s.link.cycle b.since [c] + BitVec.ofNat 16 s.cfg.lead) }))) := by
  have hexec : exec (.status sender dest body) s =
      .next ((s.heardMember b sender p).readMembers.followStatus sender p.position) :=
    exec_status_of_member s sender dest body b p hlink hb hp ho
      (by rw [hmask, BitVec.getLsbD_or, getLsbD_address _ _ hsender, getLsbD_address _ _ hsender]; simp)
      hbody hv
  have hjudged := s.judgeMember_heard b sender p hsender hlen hpresent
  obtain ⟨hnotReady, hmismatch, hready⟩ := State.readMembers_one (s.heardMember b sender p)
    { b with confirmed := b.confirmed ||| maskOf sender } sender rfl hp hstart
    (s.otherMembers_two sender b p hsender ho hmask)
  have hfaulted : ∀ k, ∃ t, Host.Outcome.next
      (((s.heardMember b sender p).recordFault k none).followStatus sender p.position) =
        (.next t : Host.Outcome State Fault Refusal) ∧ t.barrier = none ∧ t.station = .faulted ∧
          t.faults.current = some k := by
    intro k
    obtain ⟨hbarrier, hstation, hcurrent⟩ := (s.heardMember b sender p).recordFault_armed k none hs
    rw [State.followStatus_of_notRunning _ _ _ (by simp [hstation])]
    exact ⟨_, rfl, hbarrier, hstation, hcurrent⟩
  have harmed : ∀ t : State, t.station = .armed → t.followStatus sender p.position = t :=
    fun t ht => t.followStatus_of_notRunning _ _ (by simp [ht])
  rw [hexec]
  refine ⟨fun h => ?_, fun h => ?_, fun c h hlate => ?_, fun c h hlate => ?_⟩
  · rw [hnotReady (hjudged.trans h), harmed (s.heardMember b sender p) hs]
  · rw [hmismatch (hjudged.trans h)]
    exact hfaulted _
  · rw [hready c (hjudged.trans h), State.computeStart_late (s.heardMember b sender p)
        { b with confirmed := b.confirmed ||| maskOf sender } [c] hlate]
    exact hfaulted _
  · rw [hready c (hjudged.trans h), State.computeStart_known (s.heardMember b sender p)
        { b with confirmed := b.confirmed ||| maskOf sender } [c] hlate]
    exact congrArg Host.Outcome.next (harmed _ hs)

end

/-- Settles O15: arming by the members of the record, and each reading by the one other member. -/
theorem barrierArmsAndComputesS : Obligations.BarrierArmsAndComputesS := by
  refine ⟨fun s sender dest e es k ha hs hp hd hstack he hk h1 h15 hc _ hlead hl => ?_,
    fun s sender dest body b p hlink hs hb hp hstart hown hsender ho hlen hmask hpresent hbody hv => ?_⟩
  · intro b
    rw [exec_resume_arms s sender dest e es k ha hs hp hd hstack he hk hc]
    refine ⟨fun hmask => ?_, fun hsome hunknown => ?_, fun m hm ho hbit hlost hlow => ?_⟩
    · exact congrArg Host.Outcome.next (State.arm_alone (s.setSeq { s.seq with paused := false }) e.group k
        hmask hlead)
    · exact congrArg Host.Outcome.next (State.arm_waits (s.setSeq { s.seq with paused := false }) e.group k
        hsome hunknown)
    · exact congrArg Host.Outcome.next (State.arm_lost (s.setSeq { s.seq with paused := false }) e.group k
        m hm ho hbit hlost hlow h1 (h15.trans hl.ge) hc)
  · intro heard same latest later
    obtain ⟨hnotReady, hmismatch, hlate, hknown⟩ := exec_status_judged s sender dest body b p hlink hs hb hp
      hstart hsender ho hlen hmask hpresent hbody hv
    have hlater : later8 p.adv.number b.number = true ↔ later := decide_eq_true_iff
    have hready : same → p.adv.mask = b.mask → b.judgeAdv p.adv = .ready p.adv.since :=
      fun ⟨hpr, hg, hn, he⟩ hm => (b.judgeAdv_same _ hpr hg hn he).trans (if_pos hm)
    refine ⟨fun h => hnotReady ?_, fun ⟨hpr, hg, hl⟩ => hmismatch (b.judgeAdv_later _ hpr hg (hlater.2 hl)),
      fun ⟨hpr, hg, hn, he⟩ hm => hmismatch ((b.judgeAdv_same _ hpr hg hn he).trans (if_neg hm)),
      fun hsame hm hl => hlate _ (hready hsame hm) hl, fun hsame hm hl => hknown _ (hready hsame hm) hl⟩
    rcases h with h | h | ⟨hn, he⟩ | ⟨hn, hl⟩
    · exact b.judgeAdv_other _ (.inl h)
    · exact b.judgeAdv_other _ (.inr h)
    · exact b.judgeAdv_notLater _ (fun hs => he hs.2) (by rw [hn, later8_self])
    · exact b.judgeAdv_notLater _ (fun hs => hn hs.1) (Bool.eq_false_iff.2 (mt hlater.1 hl))

end Sys2Proof.Machine

/-! ## Proofs: steps of a counted run and of a homing, and the chain (O44, O46, O47) -/

namespace Sys2Proof.Machine

/-! ### One step of the generator (R57, R58) -/

/-- A run that has emitted one more step (R57). -/
def Run.stepped (r : Run) : Run := { r with emitted := r.emitted + 1, baseSteps := r.baseSteps + 1 }

/-- A generator that has emitted the step due in its run (R57, R58, R60). -/
def Gen.emitted (g : Gen) (r : Run) : Gen := { g with
  phase := if g.phase = .accelerating ∧ r.nextRate = r.profile.ft then .cruising else g.phase
  rate := r.nextRate
  position := stepFrom g.position g.dir
  run := some r.stepped }

theorem Gen.emit_run (g : Gen) (r : Run) (hr : g.run = some r) : g.emit = g.emitted r := by
  rw [Gen.emit, hr]
  rfl

theorem Gen.emitted_phase_eq (g : Gen) (r : Run) (h : g.phase ≠ .accelerating) :
    (g.emitted r).phase = g.phase := if_neg fun hc => h hc.1

theorem stepFrom_eq (p : Position) (d : Side) : stepFrom p d = match d with
    | .pos => p + 1
    | .neg => p - 1 := by
  cases d <;> rfl

/-! ### One step of the station (R55, R57) -/

theorem exec_stepDue_run (s : State) (r : Run) (hr : s.gen.run = some r)
    (hs : s.station = .running ∨ s.station = .stopping) :
    exec .stepDue s = .next (s.enterIdle s.stepRun) := by
  have hpends : s.stepPends = true := by
    rcases hs with h | h <;> simp [State.stepPends, hr, h]
  exact congrArg Host.Outcome.next (if_pos hpends)

theorem State.errorBeyond_of_noWindow (s : State) (h : s.cfg.followingWindow = 0) : s.errorBeyond = false := by
  simp [State.errorBeyond, h]

theorem State.errorBeyond_of_off (s : State) (h : s.cfg.encoderMode = .off) : s.errorBeyond = false := by
  simp [State.errorBeyond, State.encoderOn, h]

theorem State.checkFollowing_quiet (before after : State) (h : after.errorBeyond = false) :
    before.checkFollowing after = after := by
  rw [State.checkFollowing, h, Bool.and_false]
  rfl

/-- The step of a MOVE or GOTO with the following check silent (R55, R57). -/
theorem State.emitStep_counted (s : State) (a : Active) (r : Run) (ha : s.seq.active = some a)
    (hk : a.work.kind = .move ∨ a.work.kind = .goto) (hr : s.gen.run = some r)
    (he : (s.setGen (s.gen.emitted r)).errorBeyond = false) :
    s.emitStep = s.setGen (s.gen.emitted r) := by
  have hkind : s.activeKind = some a.work.kind := s.activeKind_some a ha
  have hspent : s.travelSpent = false := by
    rcases hk with h | h <;> simp [State.travelSpent, hkind, h]
  have hreport : (s.setGen (s.gen.emitted r)).reportStep = s.setGen (s.gen.emitted r) := by
    have hsame : (s.setGen (s.gen.emitted r)).activeKind = some a.work.kind := hkind
    rw [State.reportStep, hsame]
    rcases hk with h | h <;> rw [h]
  rw [State.emitStep, if_neg (by simp [hspent]), s.gen.emit_run r hr, State.checkFollowing_quiet _ _ he]
  exact if_pos rfl |>.trans hreport

/-- The step of a HOME within its travel, with the following check silent (R134). -/
theorem State.emitStep_home (s : State) (a : Active) (r : Run) (ha : s.seq.active = some a)
    (hk : a.work.kind = .home) (hr : s.gen.run = some r)
    (ht : s.homing.travelUsed < s.homing.travelLimit)
    (he : (s.setGen (s.gen.emitted r)).errorBeyond = false) :
    s.emitStep = (s.setGen (s.gen.emitted r)).homingStep := by
  have hkind : s.activeKind = some .home := by rw [s.activeKind_some a ha, hk]
  have hspent : s.travelSpent = false := by simp [State.travelSpent, hkind, ht]
  have hreport : (s.setGen (s.gen.emitted r)).reportStep = (s.setGen (s.gen.emitted r)).homingStep := by
    have hsame : (s.setGen (s.gen.emitted r)).activeKind = some .home := hkind
    rw [State.reportStep, hsame]
  rw [State.emitStep, if_neg (by simp [hspent]), s.gen.emit_run r hr, State.checkFollowing_quiet _ _ he]
  exact if_pos rfl |>.trans hreport

/-! ### What a step brings (R62, R63, R65, R66) -/

section

variable (s : State) (r : Run) (hr : s.gen.run = some r)

include hr

theorem State.afterStep_ended (h : r.ended = true) : s.afterStep = s.lastStep r := by
  rw [State.afterStep, hr]
  exact if_pos h

theorem State.afterStep_standstill (h : r.ended = false) (hp : s.gen.phase = .braking)
    (hrate : s.gen.rate ≤ r.profile.fs) : s.afterStep = s.standstill := by
  rw [State.afterStep, hr]
  simp only [h, Bool.false_eq_true, if_false]
  exact if_pos ⟨hp, hrate⟩

theorem State.afterStep_goesOn (h : r.ended = false)
    (hp : s.gen.phase = .braking → r.profile.fs < s.gen.rate) (hw : r.commitWatch = false) :
    s.afterStep = s.scheduleNext := by
  have hdue : ¬ s.gen.commitDue = true := by simp [Gen.commitDue, hr, hw]
  rw [State.afterStep, hr]
  simp only [h, Bool.false_eq_true, if_false]
  rw [if_neg fun hb => absurd (hp hb.1) (Nat.not_lt.2 hb.2), if_neg hdue]

theorem State.afterStep_commits (h : r.ended = false) (hp : s.gen.phase ≠ .braking)
    (hw : r.commitWatch = true)
    (hleft : r.left ≤ max (brakingDistance s.gen.rate r.profile.fs r.profile.d) 1) :
    s.afterStep = s.commitPoint.scheduleNext := by
  have hdue : s.gen.commitDue = true := by simp only [Gen.commitDue, hr, hw, hleft]; rfl
  rw [State.afterStep, hr]
  simp only [h, Bool.false_eq_true, if_false]
  rw [if_neg fun hb => hp hb.1, if_pos hdue]

end

theorem Run.ended_counted (r : Run) (n : Nat) (h : r.count = some n) :
    r.ended = decide (n ≤ r.emitted) := by rw [Run.ended, h]

theorem Run.ended_uncounted (r : Run) (h : r.count = none) : r.ended = false := by rw [Run.ended, h]

theorem Run.stepped_ended (r : Run) (n : Nat) (h : r.count = some n) :
    r.stepped.ended = decide (n ≤ r.emitted + 1) := Run.ended_counted r.stepped n h

theorem Run.left_counted (r : Run) (n : Nat) (h : r.count = some n) : r.left = n - r.emitted := by
  rw [Run.left, h]
  rfl

theorem Run.stepped_left (r : Run) (n : Nat) (h : r.count = some n) :
    r.stepped.left = n - (r.emitted + 1) := Run.left_counted r.stepped n h

/-! ### The next rate (R60 to R62) -/

theorem rampUp_eq (f ft a k : Nat) : rampUp f ft a k = min ft (Nat.sqrt (f * f + 2 * a * k)) := by
  rw [rampUp, isqrt_eq_sqrt]

theorem rampDown_eq (f fe d j : Nat) : rampDown f fe d j = max fe (Nat.sqrt (f * f - 2 * d * j)) := by
  rw [rampDown, isqrt_eq_sqrt]

theorem brakingDistance_eq (f fe d : Nat) (hd : 0 < d) : brakingDistance f fe d =
    if fe < f then (f * f - fe * fe + 2 * d - 1) / (2 * d) else 0 := by
  rw [brakingDistance, ceilDiv_eq _ _ (by omega)]

/-- The deceleration begins (R62). -/
theorem Gen.schedule_decelerates (g : Gen) (r : Run) (hr : g.run = some r)
    (hp : g.phase = .accelerating ∨ g.phase = .cruising) (hk : r.kind = .counted)
    (hd : r.left ≤ brakingDistance g.rate r.endRate r.profile.d) : g.schedule = { g with
      phase := .decelerating
      run := some { r with
        baseRate := g.rate, baseSteps := 0
        nextRate := max r.endRate (Nat.sqrt (g.rate * g.rate - 2 * r.profile.d)) } } := by
  have hdue : g.decelerationDue = true := by simp [Gen.decelerationDue, hr, hk, hd]
  have hrate := rampDown_eq g.rate r.endRate r.profile.d 1
  rw [Nat.mul_one] at hrate
  unfold Gen.schedule
  rw [← hrate]
  rcases hp with h | h <;> simp only [hr, h, hdue, if_true]

/-- The ramp up or the cruise goes on (R60, R61). -/
theorem Gen.schedule_goesUp (g : Gen) (r : Run) (hr : g.run = some r)
    (hp : g.phase = .accelerating ∨ g.phase = .cruising)
    (hd : r.kind ≠ .counted ∨ brakingDistance g.rate r.endRate r.profile.d < r.left) :
    g.schedule = { g with run := some { r with
      nextRate := if g.phase = .cruising then r.profile.ft
        else min r.profile.ft (Nat.sqrt (r.baseRate * r.baseRate + 2 * r.profile.a * r.baseSteps)) } } := by
  have hdue : g.decelerationDue = false := by
    rcases hd with h | h <;> simp [Gen.decelerationDue, hr, h]
  unfold Gen.schedule
  rw [← rampUp_eq]
  rcases hp with h | h <;> simp [hr, h, hdue]

/-- The braking goes on (R66). -/
theorem Gen.schedule_brakes (g : Gen) (r : Run) (hr : g.run = some r) (hp : g.phase = .braking) :
    g.schedule = { g with run := some { r with
      nextRate := max r.profile.fs
        (Nat.sqrt (r.baseRate * r.baseRate - 2 * r.profile.d * (r.baseSteps + 1))) } } := by
  unfold Gen.schedule
  rw [← rampDown_eq]
  simp only [hr, hp]

/-- A schedule fixes the phase and the rate ahead, and leaves the count, the end rate and the commit watch
of the run (R57). -/
theorem Gen.schedule_run (g : Gen) (r : Run) (hr : g.run = some r) :
    (g.schedule.phase = g.phase ∨ g.schedule.phase = .decelerating) ∧
      ∃ r', g.schedule = { g with phase := g.schedule.phase, run := some r' } ∧ r'.kind = r.kind ∧
        r'.count = r.count ∧ r'.emitted = r.emitted ∧ r'.endRate = r.endRate ∧
        r'.commitWatch = r.commitWatch := by
  unfold Gen.schedule
  simp only [hr]
  split
  · exact ⟨.inl rfl, r, by rw [← hr], rfl, rfl, rfl, rfl, rfl⟩
  · exact ⟨.inl rfl, _, rfl, rfl, rfl, rfl, rfl, rfl⟩
  · split
    · exact ⟨.inr rfl, _, rfl, rfl, rfl, rfl, rfl, rfl⟩
    · exact ⟨.inl rfl, _, rfl, rfl, rfl, rfl, rfl, rfl⟩
  · split
    · exact ⟨.inr rfl, _, rfl, rfl, rfl, rfl, rfl, rfl⟩
    · exact ⟨.inl rfl, _, rfl, rfl, rfl, rfl, rfl, rfl⟩
  · exact ⟨.inl rfl, _, rfl, rfl, rfl, rfl, rfl, rfl⟩
  · exact ⟨.inl rfl, _, rfl, rfl, rfl, rfl, rfl, rfl⟩

/-! ### The steps of O44 -/

/-- A step of a counted run that goes on, short of its commit point (R57). -/
theorem exec_stepDue_goesOn (s : State) (a : Active) (r : Run) (ha : s.seq.active = some a)
    (hs : s.station = .running ∨ s.station = .stopping)
    (hk : a.work.kind = .move ∨ a.work.kind = .goto) (hr : s.gen.run = some r)
    (he : (s.setGen (s.gen.emitted r)).errorBeyond = false)
    (hcount : (r.count = none) ∨ ∃ n, r.count = some n ∧ r.emitted + 1 < n) (hw : r.commitWatch = false)
    (hp : s.gen.phase = .braking → r.profile.fs < r.nextRate) :
    exec .stepDue s = .next (s.setGen (s.gen.emitted r).schedule) := by
  have hended : r.stepped.ended = false := by
    rcases hcount with h | ⟨n, h, hn⟩
    · exact r.stepped.ended_uncounted h
    · rw [r.stepped_ended n h]
      exact decide_eq_false (by omega)
  have hphase : (s.gen.emitted r).phase = .braking → r.profile.fs < r.nextRate := by
    intro h
    by_cases hacc : s.gen.phase = .accelerating
    · unfold Gen.emitted at h
      dsimp only at h
      split at h
      · cases h
      · rw [hacc] at h
        cases h
    · exact hp ((s.gen.emitted_phase_eq r hacc).symm.trans h)
  have hstep : s.stepRun = s.setGen (s.gen.emitted r).schedule := by
    rw [State.stepRun, s.emitStep_counted a r ha hk hr he,
      State.afterStep_goesOn (s.setGen (s.gen.emitted r)) r.stepped rfl hended hphase hw]
    rfl
  rw [exec_stepDue_run s r hr hs, hstep, s.enterIdle_same (s.setGen (s.gen.emitted r).schedule) rfl]

/-- The rate of the step after one that begins the deceleration or not (R60 to R62). -/
theorem exec_stepDue_rates (s : State) (a : Active) (r : Run) (n : Nat) (ha : s.seq.active = some a)
    (hs : s.station = .running) (hk : a.work.kind = .move ∨ a.work.kind = .goto)
    (hwindow : s.cfg.followingWindow = 0) (hr : s.gen.run = some r) (hkind : r.kind = .counted)
    (hcount : r.count = some n) (hw : r.commitWatch = false) (hn : r.emitted + 1 < n)
    (hp : s.gen.phase = .accelerating ∨ s.gen.phase = .cruising)
    (hcruise : s.gen.phase = .cruising → r.nextRate = r.profile.ft) :
    (n - (r.emitted + 1) ≤ brakingDistance r.nextRate r.endRate r.profile.d →
      exec .stepDue s = .next { s with gen := { s.gen with
        phase := .decelerating, rate := r.nextRate, position := stepFrom s.gen.position s.gen.dir
        run := some { r with
          emitted := r.emitted + 1, baseRate := r.nextRate, baseSteps := 0
          nextRate := max r.endRate (Nat.sqrt (r.nextRate * r.nextRate - 2 * r.profile.d)) } } }) ∧
    (brakingDistance r.nextRate r.endRate r.profile.d < n - (r.emitted + 1) →
      exec .stepDue s = .next { s with gen := { s.gen with
        phase := if r.nextRate = r.profile.ft then .cruising else s.gen.phase
        rate := r.nextRate, position := stepFrom s.gen.position s.gen.dir
        run := some { r with
          emitted := r.emitted + 1, baseSteps := r.baseSteps + 1
          nextRate := if r.nextRate = r.profile.ft then r.profile.ft
            else min r.profile.ft
              (Nat.sqrt (r.baseRate * r.baseRate + 2 * r.profile.a * (r.baseSteps + 1))) } } }) := by
  have hnotBraking : s.gen.phase = .braking → r.profile.fs < r.nextRate := by
    intro h
    rcases hp with hp | hp <;> simp [hp] at h
  have hleft := r.stepped_left n hcount
  have hphase : (s.gen.emitted r).phase = if r.nextRate = r.profile.ft then .cruising else s.gen.phase := by
    rcases hp with h | h
    · simp [Gen.emitted, h]
    · simp [Gen.emitted, h]
  have hphases : (s.gen.emitted r).phase = .accelerating ∨ (s.gen.emitted r).phase = .cruising := by
    rw [hphase]
    split
    · exact .inr rfl
    · exact hp
  have hcruises : (s.gen.emitted r).phase = .cruising ↔ r.nextRate = r.profile.ft := by
    rw [hphase]
    split
    · rename_i h
      exact iff_of_true rfl h
    · exact ⟨hcruise, fun h => absurd h ‹_›⟩
  rw [exec_stepDue_goesOn s a r ha (.inl hs) hk hr (State.errorBeyond_of_noWindow _ hwindow)
    (.inr ⟨n, hcount, hn⟩) hw hnotBraking]
  refine ⟨fun h => congrArg Host.Outcome.next ?_, fun h => congrArg Host.Outcome.next ?_⟩
  · rw [Gen.schedule_decelerates (s.gen.emitted r) r.stepped rfl hphases hkind (hleft.trans_le h)]
    rfl
  · rw [Gen.schedule_goesUp (s.gen.emitted r) r.stepped rfl hphases (.inr (h.trans_eq hleft.symm)), ← hphase]
    simp only [hcruises]
    rfl

/-- A step of an open run of a HOME (R70, R134). -/
theorem exec_stepDue_seeks (s : State) (a : Active) (r : Run) (ha : s.seq.active = some a)
    (hk : a.work.kind = .home) (hr : s.gen.run = some r) (hs : s.station = .running)
    (ht : s.homing.travelUsed < s.homing.travelLimit) (hwindow : s.cfg.followingWindow = 0)
    (hkind : r.kind = .openRun) (hcount : r.count = none) (hw : r.commitWatch = false)
    (hp : s.gen.phase = .accelerating ∨ s.gen.phase = .cruising) :
    exec .stepDue s = .next { s with
      homing := { s.homing with travelUsed := s.homing.travelUsed + 1 }
      gen := { s.gen with
        phase := if r.nextRate = r.profile.ft then .cruising else s.gen.phase, rate := r.nextRate
        position := stepFrom s.gen.position s.gen.dir
        run := some { r with
          emitted := r.emitted + 1, baseSteps := r.baseSteps + 1
          nextRate :=
            if (if r.nextRate = r.profile.ft then .cruising else s.gen.phase) = .cruising then r.profile.ft
            else min r.profile.ft
              (Nat.sqrt (r.baseRate * r.baseRate + 2 * r.profile.a * (r.baseSteps + 1))) } } } := by
  have hphase : (s.gen.emitted r).phase = if r.nextRate = r.profile.ft then .cruising else s.gen.phase := by
    rcases hp with h | h
    · simp [Gen.emitted, h]
    · simp [Gen.emitted, h]
  have hphases : (s.gen.emitted r).phase = .accelerating ∨ (s.gen.emitted r).phase = .cruising := by
    rw [hphase]
    split
    · exact .inr rfl
    · exact hp
  have hstep : s.stepRun = ((s.setGen (s.gen.emitted r)).homingStep).setGen (s.gen.emitted r).schedule := by
    rw [State.stepRun, s.emitStep_home a r ha hk hr ht (State.errorBeyond_of_noWindow _ hwindow),
      State.afterStep_goesOn ((s.setGen (s.gen.emitted r)).homingStep) r.stepped rfl
        (r.stepped.ended_uncounted hcount) (fun h => ?_) hw]
    · rfl
    · have hbraking : (s.gen.emitted r).phase = .braking := h
      rcases hphases with h | h <;> simp [h] at hbraking
  rw [exec_stepDue_run s r hr (.inl hs), hstep,
    s.enterIdle_same (((s.setGen (s.gen.emitted r)).homingStep).setGen (s.gen.emitted r).schedule) rfl,
    Gen.schedule_goesUp (s.gen.emitted r) r.stepped rfl hphases (.inl (by simp [Run.stepped, hkind])), ← hphase]
  rfl

/-- A homing step at the travel limit is not emitted (R134, R135). -/
theorem exec_stepDue_travelSpent (s : State) (a : Active) (r : Run) (ha : s.seq.active = some a)
    (hk : a.work.kind = .home) (hr : s.gen.run = some r)
    (hs : s.station = .running ∨ s.station = .stopping)
    (ht : s.homing.travelLimit ≤ s.homing.travelUsed) :
    ∃ t, exec .stepDue s = .next t ∧ s.endedBy t .homingFailed a := by
  have hended := s.recordFault_endedBy .homingFailed a ha hs rfl rfl
  have hspent : s.travelSpent = true := by
    simp [State.travelSpent, s.activeKind_some a ha, hk, ht]
  have hstands : (s.faultOfActive .homingFailed).gen.run = none := by rw [hended.2.1]; rfl
  have hstep : s.stepRun = s.faultOfActive .homingFailed := by
    rw [State.stepRun, State.emitStep, if_pos hspent, State.afterStep, hstands]
  exact ⟨_, exec_stepDue_run s r hr hs, by rw [hstep, hended.enterIdle]; exact hended⟩

/-- Settles O44: a step by its run, and the step that its travel does not allow. -/
theorem stepMovesByOneAndRatesTheNext : Obligations.StepMovesByOneAndRatesTheNext := by
  refine ⟨fun s hr => congrArg Host.Outcome.next (if_neg (by simp [State.stepPends, hr])),
    fun s a r n hs ha hk hwindow hr hkind hcount hw hn hp hd hcruise => ?_,
    fun s a r ha hk hr => ⟨fun hs ht hwindow hkind hcount hw hp => ?_, fun hs ht => ?_⟩⟩
  · intro f k left braking position
    have hrates := exec_stepDue_rates s a r n ha hs hk hwindow hr hkind hcount hw hn hp hcruise
    rw [brakingDistance_eq _ _ _ hd, stepFrom_eq] at hrates
    exact hrates
  · intro f phase
    have hseeks := exec_stepDue_seeks s a r ha hk hr hs ht hwindow hkind hcount hw hp
    rw [stepFrom_eq] at hseeks
    exact hseeks
  · obtain ⟨t, hexec, hseq, hgen, hhoming, hstack, -, -, -, hfaults, hgroups, -⟩ :=
      exec_stepDue_travelSpent s a r ha hk hr hs ht
    exact ⟨t, hexec, hseq, hgen, hhoming, hstack, hfaults, hgroups⟩

end Sys2Proof.Machine

/-! ## Proofs: the run to its last step, the commit point and the handover (O46, O47) -/

namespace Sys2Proof.Machine

/-! ### The last step of a counted run (R35, R65) -/

theorem State.lastStep_counted (s : State) (a : Active) (r : Run) (ha : s.seq.active = some a)
    (hk : a.work.kind = .move ∨ a.work.kind = .goto) : s.lastStep r = s.lastCounted a r := by
  rw [State.lastStep, ha]
  rcases hk with h | h <;> simp only [h]

/-- A last step with no bound successor (R35). -/
theorem State.lastCounted_completes (s : State) (a : Active) (r : Run)
    (h : a.bound = none ∨ a.faultEnded = true) :
    s.lastCounted a r = (s.setGen s.gen.ceased).completeWork := by
  refine if_neg ?_
  rcases h with h | h <;> simp [h]

/-- The last step, by what it leaves of the run (R57, R65). -/
theorem State.stepRun_last (s : State) (a : Active) (r : Run) (n : Nat) (ha : s.seq.active = some a)
    (hk : a.work.kind = .move ∨ a.work.kind = .goto) (hr : s.gen.run = some r) (hcount : r.count = some n)
    (hn : r.emitted + 1 = n) (he : (s.setGen (s.gen.emitted r)).errorBeyond = false) :
    s.stepRun = (s.setGen (s.gen.emitted r)).lastCounted a r.stepped := by
  have hended : r.stepped.ended = true := by
    rw [r.stepped_ended n hcount]
    exact decide_eq_true (by omega)
  rw [State.stepRun, s.emitStep_counted a r ha hk hr he,
    State.afterStep_ended (s.setGen (s.gen.emitted r)) r.stepped rfl hended,
    State.lastStep_counted (s.setGen (s.gen.emitted r)) a r.stepped ha hk]

/-! ### A run to its end (O47) -/

/-- The state after a record's run of `k` more steps has ended it DONE at standstill (R35, R36, R58). -/
def State.runFinished (s : State) (a : Active) (k : Nat) : State := { s with
  seq := s.seq.ended .idle a.work.tag .done
  gen := { s.gen.ceased with position := s.gen.position + BitVec.ofInt 32 (signed s.gen.dir k) }
  homing := .reset, follow := .reset
  encoder := { s.encoder with settle := none }, barrier := none }

theorem stepFrom_add (p : Position) (d : Side) (k : Nat) :
    stepFrom p d + BitVec.ofInt 32 (signed d k) = p + BitVec.ofInt 32 (signed d (k + 1)) := by
  have hsum : signed d (k + 1) = signed d 1 + signed d k := by
    cases d <;> simp only [signed] <;> omega
  rw [hsum, BitVec.ofInt_add, ← BitVec.add_assoc]
  cases d
  · rfl
  · rw [stepFrom, BitVec.sub_eq_add_neg]
    rfl

/-- What O47 asks of a running record and its run. -/
structure State.Undisturbed (s : State) (a : Active) (r : Run) (n : Nat) : Prop where
  running : s.station = .running
  active : s.seq.active = some a
  kind : a.work.kind = .move ∨ a.work.kind = .goto
  bound : a.bound = none
  faultEnded : a.faultEnded = false
  encoderOff : s.cfg.encoderMode = .off
  noWork : s.noWork
  run : s.gen.run = some r
  counted : r.kind = .counted
  count : r.count = some n
  unwatched : r.commitWatch = false
  phase : s.gen.phase = .accelerating ∨ s.gen.phase = .cruising ∨ s.gen.phase = .decelerating

namespace State.Undisturbed

variable {s : State} {a : Active} {r : Run} {n : Nat}

/-- The last step of an undisturbed run (R35). -/
theorem exec_last (h : s.Undisturbed a r n) (hn : r.emitted + 1 = n) :
    exec .stepDue s = .next (s.runFinished a 1) := by
  have hstep : s.stepRun = ((s.setGen (s.gen.emitted r)).setGen (s.gen.emitted r).ceased).endRecord .done := by
    rw [s.stepRun_last a r n h.active h.kind h.run h.count hn (State.errorBeyond_of_off _ h.encoderOff),
      State.lastCounted_completes _ a _ (.inl h.bound)]
    exact State.completeWork_done _ a h.active h.faultEnded (.inr (State.settlesAtEnd_of_off _ h.encoderOff))
  have hposition : stepFrom s.gen.position s.gen.dir =
      s.gen.position + BitVec.ofInt 32 (signed s.gen.dir 1) := by
    rw [← stepFrom_add]
    cases s.gen.dir <;> exact (BitVec.add_zero _).symm
  have hdone : ((s.setGen (s.gen.emitted r)).setGen (s.gen.emitted r).ceased).endRecord .done =
      s.runFinished a 1 := by
    rw [State.endRecord_some ((s.setGen (s.gen.emitted r)).setGen (s.gen.emitted r).ceased) _ a h.active,
      State.runFinished, ← hposition]
    rfl
  rw [exec_stepDue_run s r h.run (.inl h.running), hstep, hdone,
    s.enterIdle_entered _ rfl (by simp [h.running])]
  exact congrArg Host.Outcome.next (State.dispatch_noWork_idle _ h.noWork rfl)

/-- A step of an undisturbed run that is not its last. -/
theorem exec_next (h : s.Undisturbed a r n) (hn : r.emitted + 1 < n) :
    ∃ t r', exec .stepDue s = .next t ∧ t.Undisturbed a r' n ∧ r'.emitted = r.emitted + 1 ∧
      ∀ k, t.runFinished a k = s.runFinished a (k + 1) := by
  obtain ⟨hphase, r', hgen, hkind, hcount, hemitted, -, hwatch⟩ :=
    (s.gen.emitted r).schedule_run r.stepped rfl
  have hmoving : (s.gen.emitted r).phase = .accelerating ∨ (s.gen.emitted r).phase = .cruising ∨
      (s.gen.emitted r).phase = .decelerating := by
    rcases h.phase with hp | hp | hp
    · by_cases htop : r.nextRate = r.profile.ft <;> simp [Gen.emitted, hp, htop]
    · simp [Gen.emitted, hp]
    · simp [Gen.emitted, hp]
  have hexec := exec_stepDue_goesOn s a r h.active (.inl h.running) h.kind h.run
    (State.errorBeyond_of_off _ h.encoderOff) (.inr ⟨n, h.count, hn⟩) h.unwatched (fun hb => by
      rcases h.phase with hp | hp | hp <;> simp [hp] at hb)
  refine ⟨_, r', hexec, ⟨h.running, h.active, h.kind, h.bound, h.faultEnded, h.encoderOff, h.noWork,
    congrArg Gen.run hgen, hkind.trans h.counted, hcount.trans h.count, hwatch.trans h.unwatched, ?_⟩,
    hemitted, fun k => ?_⟩
  · rcases hphase with hp | hp
    · exact hp ▸ hmoving
    · exact .inr (.inr hp)
  · rw [hgen]
    simp only [State.runFinished]
    rw [← stepFrom_add]
    rfl

/-- A run that nothing disturbs, by induction on the steps left of it. -/
theorem runs (k : Nat) (h : s.Undisturbed a r n) (hk : r.emitted + (k + 1) = n) :
    runCommands (List.replicate (k + 1) .stepDue) s = .next (s.runFinished a (k + 1)) := by
  induction k generalizing s r with
  | zero =>
    rw [List.replicate_succ, runCommands, h.exec_last hk]
    rfl
  | succ k ih =>
    obtain ⟨t, r', hexec, hnext, hemitted, hfinished⟩ := h.exec_next (by omega)
    rw [List.replicate_succ, runCommands, hexec]
    exact (ih hnext (by omega)).trans (congrArg Host.Outcome.next (hfinished (k + 1)))

end State.Undisturbed

/-- Settles O47. -/
theorem undisturbedRunEmitsItsCount : Obligations.UndisturbedRunEmitsItsCount := by
  intro s a r n k hs ha hk hb hf he hw hr hc hn hwatch hp hpos hleft
  obtain ⟨k, rfl⟩ := Nat.exists_eq_succ_of_ne_zero (Nat.pos_iff_ne_zero.1 hpos)
  have hruns := State.Undisturbed.runs k ⟨hs, ha, hk, hb, hf, he, hw, hr, hc, hn, hwatch, hp⟩ hleft
  exact ⟨_, hruns, rfl, rfl, rfl, rfl, rfl, rfl, rfl, rfl, rfl, rfl, rfl, rfl, rfl⟩

/-! ### The commit point (R41, R42, R64) -/

theorem State.successor_of_qualifies (s : State) (e : QueueEntry) (es : List QueueEntry)
    (he : s.queue.entries = e :: es) (hstack : s.stack.residuals = []) (hi : e.insert = false)
    (hb : e.barrier = none) (hg : s.groupHalted e.group = false) (hp : s.seq.paused = false)
    (hbody : s.bodyQualifies e.body = true) : s.successor = some e := by
  rw [State.successor, he, hstack]
  exact if_pos (by simp [hi, hb, hg, hp, hbody])

/-- The commit point with a successor that qualifies (R41, R64). -/
theorem State.commitPoint_binds (s : State) (a : Active) (e : QueueEntry) (ha : s.seq.active = some a)
    (hs : s.successor = some e) : s.commitPoint = { s with
      queue := { s.queue with entries := markHead s.queue.entries }
      seq := { s.seq with active := some { a with bound := some e } }
      gen := s.gen.unwatched.setEndRate (min a.work.profile.ft e.profile.ft) } := by
  have hprofile : s.activeProfile = a.work.profile := by rw [State.activeProfile, ha]
  have hactive : (s.setGen s.gen.unwatched).seq.active = some a := ha
  rw [State.commitPoint, hs]
  simp only [hactive, hprofile]
  rfl

/-- The commit point with nothing next (R42). -/
theorem State.commitPoint_breaks (s : State) (hw : s.noWork) : s.commitPoint = { s with
    seq := { s.seq with chainBreaks := satSucc 255 s.seq.chainBreaks }
    gen := s.gen.unwatched } := by
  have hnone : s.successor = none := by rw [State.successor, hw.1]
  have hnext : s.nextHasBarrier = false := by rw [State.nextHasBarrier, (s.candidate_eq_none).2 hw]
  rw [State.commitPoint, hnone, hnext]
  rfl

theorem sideOf_eq (m : Int) (d : Side) (h : 0 < m ↔ d = .pos) : sideOf m = d := by
  unfold sideOf
  cases d
  · exact if_pos (h.2 rfl)
  · exact if_neg fun hm => by simpa using h.1 hm

/-- The step at whose commit point a watched run stands (R63). -/
theorem exec_stepDue_commits (s : State) (a : Active) (r : Run) (n : Nat) (ha : s.seq.active = some a)
    (hs : s.station = .running) (hk : a.work.kind = .move ∨ a.work.kind = .goto)
    (hr : s.gen.run = some r) (he : (s.setGen (s.gen.emitted r)).errorBeyond = false)
    (hcount : r.count = some n) (hn : r.emitted + 1 < n) (hw : r.commitWatch = true)
    (hp : s.gen.phase = .accelerating ∨ s.gen.phase = .cruising)
    (hleft : n - (r.emitted + 1) ≤ max (brakingDistance r.nextRate r.profile.fs r.profile.d) 1) :
    exec .stepDue s = .next (s.enterIdle (s.setGen (s.gen.emitted r)).commitPoint.scheduleNext) := by
  have hended : r.stepped.ended = false := by
    rw [r.stepped_ended n hcount]
    exact decide_eq_false (by omega)
  have hbraking : (s.gen.emitted r).phase ≠ .braking := by
    rcases hp with hp | hp
    · by_cases htop : r.nextRate = r.profile.ft <;> simp [Gen.emitted, hp, htop]
    · simp [Gen.emitted, hp]
  rw [exec_stepDue_run s r hr (.inl hs), State.stepRun, s.emitStep_counted a r ha hk hr he,
    State.afterStep_commits (s.setGen (s.gen.emitted r)) r.stepped rfl hended hbraking hw
      ((r.stepped_left n hcount).trans_le hleft)]

/-! ### The handover (R43, R65) -/

theorem dirLevel_eq (c : Settings) (d : Side) : dirLevel c d = match d with
    | .pos => !c.reversed
    | .neg => c.reversed := by
  cases d <;> rfl

theorem State.limitActive_of_drive {s t : State} (h : t.drive = s.drive) (d : Side) :
    t.limitActive d = s.limitActive d := by
  cases d <;> simp only [State.limitActive, h]

theorem State.groupHalted_of_groups {s t : State} (h : t.groups = s.groups) (g : Nat) :
    t.groupHalted g = s.groupHalted g := by
  simp only [State.groupHalted, State.group, h]
  rfl

/-- A MOVE that is bound starts at the handover rate with the generator in motion (R43, R65). -/
theorem State.startChained_move (s : State) (e : QueueEntry) (m : Int) (fh : Nat) (hbody : e.body = .move m)
    (h0 : m ≠ 0) (hl : s.limitActive (sideOf m) = false) (hc : e.chain = false)
    (hg : s.groupHalted e.group = false) : s.startChained (.segment e) fh = { s with
      seq := { s.seq with
        station := .running, active := some ⟨.segment e, none, false, false, none, none⟩ }
      gen := s.gen.orderCounted s.cfg m.natAbs (sideOf m) e.profile fh false } := by
  have hkind : (Work.segment e).kind = .move := by simp [Work.kind, hbody, Body.kind]
  have hdistance : (s.formRecord (.segment e)).distance (.segment e) = m := by
    rw [State.distance, hbody]
  have hlimit : (s.formRecord (.segment e)).limitActive (sideOf m) = false := by
    rw [← hl]
    cases sideOf m <;> rfl
  have hfault : (s.formRecord (.segment e)).startFault (.segment e) = none := by
    rw [State.startFault, hkind]
    simp only [hdistance, State.limitCheck, hlimit]
    simp
  have horder : (s.formRecord (.segment e)).orderRun (.segment e) m fh =
      (s.formRecord (.segment e)).setGen
        (s.gen.orderCounted s.cfg m.natAbs (sideOf m) e.profile fh false) := by
    have hchain : (Work.segment e).chain = false := hc
    rw [State.orderRun, hchain]
    rfl
  unfold State.startChained
  simp only [hfault, hdistance, horder]
  rw [if_neg h0]
  exact if_neg (Bool.eq_false_iff.1 hg)

/-- The handover to a MOVE (R36, R43, R65). -/
theorem State.handover_move (s : State) (a : Active) (e : QueueEntry) (es : List QueueEntry) (m : Int)
    (fh : Nat) (ha : s.seq.active = some a) (he : s.queue.entries = e :: es) (hbody : e.body = .move m)
    (h0 : m ≠ 0) (hl : s.limitActive (sideOf m) = false) (hc : e.chain = false)
    (hg : s.groupHalted e.group = false) : s.handover fh = { s with
      queue := { s.queue with entries := es }
      seq := { s.seq with
        station := .running, lastFinished := some (a.work.tag, .done)
        active := some ⟨.segment { e with bound := false }, none, false, false, none, none⟩ }
      gen := { s.gen with run := none }.orderCounted s.cfg m.natAbs (sideOf m) e.profile fh false
      homing := .reset, follow := .reset, encoder := { s.encoder with settle := none }
      barrier := none } := by
  rw [State.handover, he]
  simp only [s.endRecord_some _ a ha]
  refine (State.startChained_move _ { e with bound := false } m fh hbody h0 ?_ hc ?_).trans rfl
  · rw [← hl]
    exact State.limitActive_of_drive rfl _
  · rw [← hg]
    exact State.groupHalted_of_groups rfl _

/-- Settles O46: the commit point and the handover, each by what it makes of the state. -/
theorem chainBindsAndHandsOver : Obligations.ChainBindsAndHandsOver := by
  refine ⟨fun s a r n hs ha hk hwindow hr _ hcount hw hn hp => ?_,
    fun s a r n e es m hs ha hk hb hf hwindow _ _ hr hcount hn he hbody h0 hdir hl hc hg => ?_⟩
  · intro f braking position hd hleft hstack
    have hexec := exec_stepDue_commits s a r n ha hs hk hr (State.errorBeyond_of_noWindow _ hwindow) hcount hn
      hw hp (by rw [brakingDistance_eq _ _ _ hd]; exact hleft)
    refine ⟨fun e es m he hi hbarrier hg hpaused hbody h0 hdir => ?_, fun he => ?_⟩
    · have hsuccessor : (s.setGen (s.gen.emitted r)).successor = some e :=
        State.successor_of_qualifies _ e es he hstack hi hbarrier hg hpaused (by
          rw [hbody]
          simp [State.bodyQualifies, h0, sideOf_eq m _ hdir, Gen.emitted])
      have hbound := State.commitPoint_binds (s.setGen (s.gen.emitted r)) a e ha hsuccessor
      obtain ⟨-, r', hgen, -, -, -, hend, hwatch⟩ :=
        ((s.gen.emitted r).unwatched.setEndRate (min a.work.profile.ft e.profile.ft)).schedule_run _ rfl
      rw [hexec, hbound]
      refine ⟨_, congrArg Host.Outcome.next (s.enterIdle_same _ rfl), ?_, rfl, ?_, r', congrArg Gen.run hgen, hwatch, hend⟩
      · exact congrArg (fun l => { s.queue with entries := markHead l }) he
      · exact (congrArg Gen.position hgen).trans (stepFrom_eq _ _)
    · have hbreaks := State.commitPoint_breaks (s.setGen (s.gen.emitted r)) ⟨he, hstack⟩
      obtain ⟨-, r', hgen, -, -, -, hend, hwatch⟩ := (s.gen.emitted r).unwatched.schedule_run _ rfl
      rw [hexec, hbreaks]
      exact ⟨_, congrArg Host.Outcome.next (s.enterIdle_same _ rfl), rfl, rfl, (congrArg Gen.position hgen).trans (stepFrom_eq _ _), r',
        congrArg Gen.run hgen, hwatch, hend⟩
  · have hlast : (s.setGen (s.gen.emitted r)).lastCounted a r.stepped =
        (s.setGen (s.gen.emitted r)).handover r.endRate := if_pos (by simp [hb, hf])
    have hside := sideOf_eq m _ hdir
    rw [exec_stepDue_run s r hr (.inl hs),
      s.stepRun_last a r n ha hk hr hcount hn (State.errorBeyond_of_noWindow _ hwindow), hlast,
      State.handover_move (s.setGen (s.gen.emitted r)) a e es m r.endRate ha he hbody h0
        (by rw [hside, ← hl]; exact State.limitActive_of_drive rfl _) hc hg, hside]
    refine congrArg Host.Outcome.next ((s.enterIdle_same _ ?_).trans ?_)
    · exact hs.symm
    · have hstation : s.seq.station = .running := hs
      simp only [Gen.orderCounted, Gen.turned, State.setGen_gen, Gen.emitted, stepFrom_eq, dirLevel_eq,
        hstation]
      rfl

end Sys2Proof.Machine

/-! ## Proofs: stops, standstill and the dispatch that follows it (O32, O33, O45) -/

namespace Sys2Proof.Machine

/-! ### Dispatch after an end (R28 to R30) -/

/-- Behind the latch nothing but an INSERT goes on (R30). -/
theorem State.dispatch_latched (s : State) (hs : s.station = .idle ∨ s.station = .held)
    (hp : s.seq.paused = true) (hi : ∀ e ∈ s.queue.entries, e.insert = false) :
    s.dispatch = s.setStation .idle := by
  cases hc : s.candidate with
  | none => exact s.dispatch_noWork ((s.candidate_eq_none).1 hc) hs
  | some c =>
    obtain ⟨src, w⟩ := c
    refine s.dispatch_waits hs hc (s.gate_of_latch w hp ?_)
    rcases s.candidate_cases src w hc with ⟨-, e, es, rfl, he, -⟩ | ⟨-, r, rs, rfl, -, -⟩
    · exact hi e (by rw [he]; exact List.mem_cons_self)
    · rfl

/-- A residual of a HALTED group on top of the stack is held (R30). -/
theorem State.dispatch_heldResidual (s : State) (r : Residual) (rs : List Residual)
    (hs : s.station = .idle ∨ s.station = .held) (hr : s.stack.residuals = r :: rs)
    (hi : ∀ e ∈ s.queue.entries, e.insert = false) (hp : s.seq.paused = false)
    (hg : s.groupHalted r.group = true) : s.dispatch = s.setStation .held :=
  s.dispatch_held hs (s.candidate_stackTop r rs hr fun e es he => hi e (by rw [he]; exact List.mem_cons_self))
    (s.gate_of_halted _ (.inl hp) hg)

/-- A DWELL INSERT at the queue head starts over whatever the stack holds (R29, R33). -/
theorem State.dispatch_insertDwell (s : State) (e : QueueEntry) (es : List QueueEntry) (n : Nat)
    (hs : s.station = .idle ∨ s.station = .held) (he : s.queue.entries = e :: es)
    (hi : e.insert = true) (hbody : e.body = .dwell n) (hb : e.barrier = none)
    (hg : s.groupHalted e.group = false) (hd : s.drive.clear = .none) :
    s.dispatch = (s.setQueue { s.queue with entries := es }).dwellBegun (.segment e) n := by
  have hc := s.candidate_queueHead e es he (.inl hi)
  have hgate : s.gate (.segment e) = .start := by
    rw [s.gate_of_open (.segment e) (.inr hi) hg hd, show (Work.segment e).barrier = none from hb]
    rfl
  have hstart : s.startCandidate .queueHead (.segment e) =
      (s.setQueue { s.queue with entries := es }).dwellBegun (.segment e) n := by
    rw [s.startCandidate_dwell .queueHead e n hbody]
    simp only [State.takeCandidate, he]
    rfl
  rw [s.dispatch_starts hs hc hgate (by rw [hstart]; simp [State.dwellBegun, State.station]), hstart]

/-! ### Standstill and what follows it (R48, R80, R81) -/

/-- A state whose record is over, with what goes with it (R36). -/
def State.stilled (s : State) (q : Sequencer) : State := { s with
  gen := s.gen.ceased, homing := .reset, follow := .reset
  encoder := { s.encoder with settle := none }, barrier := none, seq := q }

section

variable (before s : State) (a : Active) (ha : s.seq.active = some a) (hbefore : before.station ≠ .idle)

include ha in
theorem State.standstill_faulted (hf : a.faultEnded = true) :
    before.enterIdle s.reachStandstill = s.stilled (s.seq.ended .faulted a.work.tag .faulted) := by
  rw [s.reachStandstill_faulted a ha hf, s.endRecord_some _ a ha]
  exact before.enterIdle_other _ (by simp [State.station, Sequencer.ended, Result.station])

include ha hbefore

theorem State.standstill_abort (hf : a.faultEnded = false) (hd : a.disposition = some .abort)
    (hw : s.noWork) :
    before.enterIdle s.reachStandstill = s.stilled (s.seq.ended .idle a.work.tag .aborted) := by
  rw [s.reachStandstill_abort a ha hf hd, s.endRecord_some _ a ha, before.enterIdle_entered _ rfl hbefore]
  exact State.dispatch_noWork_idle _ hw rfl

theorem State.standstill_pause (hf : a.faultEnded = false) (hd : a.disposition = some .pause)
    {part : Remaining} (hpart : s.remainingPart a = some part) (hroom : s.stack.residuals.length < 3)
    (hp : s.seq.paused = true) (hi : ∀ e ∈ s.queue.entries, e.insert = false) :
    before.enterIdle s.reachStandstill =
      (s.stilled { s.seq with station := .idle, active := none }).setStack
        { s.stack with residuals := a.residual .pause part :: s.stack.residuals } := by
  rw [s.reachStandstill_pause a ha hf hd hpart hroom, s.pushResidual_eq, before.enterIdle_entered _ rfl hbefore]
  exact State.dispatch_latched _ (.inl rfl) hp hi

theorem State.standstill_pauseFull (hf : a.faultEnded = false) (hd : a.disposition = some .pause)
    {part : Remaining} (hpart : s.remainingPart a = some part) (hfull : 3 ≤ s.stack.residuals.length)
    (hp : s.seq.paused = true) (hi : ∀ e ∈ s.queue.entries, e.insert = false) :
    before.enterIdle s.reachStandstill =
      (s.stilled (s.seq.ended .idle a.work.tag .aborted)).setStack { s.stack with
        overflow := true, overflowCount := satSucc 255 s.stack.overflowCount } := by
  rw [s.reachStandstill_pauseFull a ha hf hd hpart hfull, State.discardResidual,
    State.endRecord_some (s.setStack { s.stack with
      overflow := true, overflowCount := satSucc 255 s.stack.overflowCount }) _ a ha, before.enterIdle_entered _ rfl hbefore]
  exact State.dispatch_latched _ (.inl rfl) hp hi

theorem State.standstill_halt (hf : a.faultEnded = false) (hd : a.disposition = some .halt)
    {part : Remaining} (hpart : s.remainingPart a = some part) (hroom : s.stack.residuals.length < 3)
    (hp : s.seq.paused = false) (hg : s.groupHalted a.work.group = true)
    (hi : ∀ e ∈ s.queue.entries, e.insert = false) :
    before.enterIdle s.reachStandstill =
      (s.stilled { s.seq with station := .held, active := none }).setStack
        { s.stack with residuals := a.residual .halt part :: s.stack.residuals } := by
  rw [s.reachStandstill_halt a ha hf hd hpart hroom, s.pushResidual_eq, before.enterIdle_entered _ rfl hbefore]
  exact State.dispatch_heldResidual _ _ _ (.inl rfl) rfl hi hp ((State.groupHalted_of_groups rfl _).trans hg)

theorem State.standstill_preempt (hf : a.faultEnded = false) (hd : a.disposition = some .preempt)
    {part : Remaining} (hpart : s.remainingPart a = some part) (e : QueueEntry) (es : List QueueEntry)
    (n : Nat) (he : s.queue.entries = e :: es) (hi : e.insert = true) (hbody : e.body = .dwell n)
    (hb : e.barrier = none) (hg : s.groupHalted e.group = false) (hclear : s.drive.clear = .none) :
    before.enterIdle s.reachStandstill =
      ((s.stilled { s.seq with
        station := .running
        active := some ⟨.segment e, none, false, false, none,
          some (s.link.cycle + BitVec.ofNat 16 n)⟩ }).setStack
        { s.stack with residuals := a.residual .preempt part :: s.stack.residuals }).setQueue
          { s.queue with entries := es } := by
  rw [s.reachStandstill_preempt a ha hf hd hpart, s.pushResidual_eq, before.enterIdle_entered _ rfl hbefore]
  exact State.dispatch_insertDwell _ e es n (.inl rfl) he hi hbody hb
    ((State.groupHalted_of_groups rfl _).trans hg) hclear

end

/-! ### STOP by its mode (R45) -/

theorem State.takeStop_abortDecel (s : State) : s.takeStop [1] = s.doStop .abortDecel := rfl

theorem State.takeStop_abortImmediate (s : State) : s.takeStop [2] = s.doStop .abortImmediate := rfl

theorem State.takeStop_pause (s : State) : s.takeStop [3] = s.doStop .pause := rfl

theorem State.doStop_running (s : State) (m : StopMode) (hs : s.station = .running) :
    s.doStop m = s.stopRunning m := by rw [State.doStop, hs]

theorem State.doStop_stopping (s : State) (m : StopMode) (hs : s.station = .stopping) :
    s.doStop m = s.stopStopping m := by rw [State.doStop, hs]

/-- PAUSE leaves a residual of a record that suspends, and aborts the others (R46). -/
theorem State.pauseDisposition_eq (s : State) (a : Active) (ha : s.seq.active = some a) :
    s.pauseDisposition = if a.work.kind = .home ∨ a.work.kind = .follow then .abort else .pause := by
  rw [State.pauseDisposition, s.activeKind_some a ha]
  cases a.work.kind <;> rfl

theorem SegQueue.unbound_of_nil (q : SegQueue) (h : q.entries = []) : q.unbound = q := by
  obtain ⟨entries, expected, fresh, refusal⟩ := q
  subst h
  rfl

theorem signed_eq (d : Side) (n : Nat) : signed d n = match d with
    | .pos => (n : Int)
    | .neg => -(n : Int) := by
  cases d <;> rfl

/-! ### A STOP of a running record in motion or at rest (O33) -/

/-- The state of a record that a STOP brakes (R46, R148). -/
def State.braked (s : State) (a : Active) (d : Disposition) (paused : Bool) (g : Gen) : State := { s with
  queue := s.queue.unbound
  seq := { s.seq with
    station := .stopping, paused := paused
    active := some { a with disposition := some d, faultEnded := false, reserved := false, bound := none } }
  gen := g
  follow := s.follow.stopped }

section

variable (s : State) (a : Active) (ha : s.seq.active = some a) (hs : s.station = .running)

include ha hs

/-- ABORT-DECEL and PAUSE of a record that brakes (R46, R66). -/
theorem State.takeStop_brakes (hk : a.work.kind ≠ .dwell) (hg : s.gen.stopsAtOnce = false) :
    s.takeStop [1] = s.braked a .abort s.seq.paused s.gen.brake ∧
    s.takeStop [3] = s.braked a
      (if a.work.kind = .home ∨ a.work.kind = .follow then .abort else .pause) true s.gen.brake := by
  rw [s.takeStop_abortDecel, s.takeStop_pause, s.doStop_running _ hs, s.doStop_running _ hs]
  constructor
  · rw [State.stopRunning, s.beginStop_goesOn .abort false a ha hk hg]
    exact s.enterIdle_other _ (by simp)
  · rw [State.stopRunning, State.beginStop_goesOn s.setLatch _ false a ha hk hg, s.pauseDisposition_eq a ha]
    refine (s.enterIdle_other _ (by simp)).trans ?_
    split <;> rfl

/-- ABORT-DECEL of a record that stands at once, with no work waiting (R66). -/
theorem State.takeStop_abortStands (hg : a.work.kind = .dwell ∨ s.gen.stopsAtOnce = true) (hw : s.noWork) :
    s.takeStop [1] = s.stilled (s.seq.ended .idle a.work.tag .aborted) := by
  have hstands := State.standstill_abort s (s.stopOrdered a .abort false) _ rfl (by simp [hs]) rfl rfl
    ⟨by simp [State.stopOrdered, SegQueue.unbound, hw.1], hw.2⟩
  rw [s.takeStop_abortDecel, s.doStop_running _ hs, State.stopRunning,
    s.beginStop_stands .abort false false a ha (.inr hg), hstands, State.stopOrdered,
    s.queue.unbound_of_nil hw.1]
  rfl

/-- ABORT-IMMEDIATE, with no work waiting (R46). -/
theorem State.takeStop_abortNow (hw : s.noWork) :
    s.takeStop [2] = s.stilled (s.seq.ended .idle a.work.tag .aborted) := by
  have hstands := State.standstill_abort s (s.stopOrdered a .abort false) _ rfl (by simp [hs]) rfl rfl
    ⟨by simp [State.stopOrdered, SegQueue.unbound, hw.1], hw.2⟩
  rw [s.takeStop_abortImmediate, s.doStop_running _ hs, State.stopRunning,
    s.beginStop_stands .abort true false a ha (.inl rfl), hstands, State.stopOrdered,
    s.queue.unbound_of_nil hw.1]
  rfl

/-- PAUSE of a HOME or a FOLLOW that stands at once, with no work waiting (R46, R50). -/
theorem State.takeStop_pauseAborts (hk : a.work.kind = .home ∨ a.work.kind = .follow)
    (hg : s.gen.stopsAtOnce = true) (hw : s.noWork) : s.takeStop [3] =
      s.stilled { s.seq.ended .idle a.work.tag .aborted with paused := true } := by
  have hdisposition : s.pauseDisposition = .abort := by
    rw [s.pauseDisposition_eq a ha, if_pos hk]
  have hstands := State.standstill_abort s (s.setLatch.stopOrdered a .abort false) _ rfl (by simp [hs]) rfl rfl
    ⟨by simp [State.stopOrdered, SegQueue.unbound, State.setLatch, hw.1], hw.2⟩
  rw [s.takeStop_pause, s.doStop_running _ hs, State.stopRunning, hdisposition,
    State.beginStop_stands s.setLatch .abort false false a ha (.inr (.inr hg)), hstands, State.stopOrdered,
    SegQueue.unbound_of_nil s.setLatch.queue hw.1]
  rfl

/-- PAUSE of a record that suspends and stands at once, with nothing to go before it (R46, R80). -/
theorem State.takeStop_pauseStands (hk : ¬ (a.work.kind = .home ∨ a.work.kind = .follow))
    (hg : a.work.kind = .dwell ∨ s.gen.stopsAtOnce = true) {part : Remaining}
    (hpart : ∀ u : State, u.gen = s.gen → u.link = s.link → ∀ b : Active, b.work = a.work →
      b.dwellEnd = a.dwellEnd → u.remainingPart b = some part)
    (hroom : s.stack.residuals.length < 3) (hi : ∀ e ∈ s.queue.entries, e.insert = false) :
    s.takeStop [3] = ((s.stilled { s.seq with station := .idle, paused := true, active := none }).setStack
      { s.stack with residuals := a.residual .pause part :: s.stack.residuals }).setQueue
        s.queue.unbound := by
  have hdisposition : s.pauseDisposition = .pause := by
    rw [s.pauseDisposition_eq a ha, if_neg hk]
  have hstands := State.standstill_pause s (s.setLatch.stopOrdered a .pause false) _ rfl (by simp [hs]) rfl rfl
    (hpart _ rfl rfl _ rfl rfl) hroom rfl (by
      intro e he
      obtain ⟨x, hx, rfl⟩ := List.mem_map.1 he
      exact hi x hx)
  rw [s.takeStop_pause, s.doStop_running _ hs, State.stopRunning, hdisposition,
    State.beginStop_stands s.setLatch .pause false false a ha (.inr hg), hstands]
  rfl

end

theorem Gen.stopsAtOnce_of_standstill (g : Gen) (h : g.phase = .standstill) : g.stopsAtOnce = true := by
  unfold Gen.stopsAtOnce
  rw [h]

/-- A run at or below its start rate stands at once (R66). -/
theorem Gen.stopsAtOnce_of_slow (g : Gen) (r : Run) (hr : g.run = some r) (hbrake : g.phase ≠ .braking)
    (hslow : g.stopRate r ≤ r.profile.fs) : g.stopsAtOnce = true := by
  unfold Gen.stopsAtOnce
  rw [hr]
  split <;> simp_all

theorem Gen.stopsAtOnce_of_braking (g : Gen) (r : Run) (hr : g.run = some r) (h : g.phase = .braking) :
    g.stopsAtOnce = false := by
  unfold Gen.stopsAtOnce
  rw [hr, h]

/-- Settles O33: by whether the run brakes, brakes already, or stands at once. -/
theorem stopBrakesOrEndsARunningMove : Obligations.StopBrakesOrEndsARunningMove := by
  intro s sender dest a haddr hs ha hk onPause stopping still ended
  rw [exec_stop_of_addressed s sender dest _ haddr, exec_stop_of_addressed s sender dest _ haddr,
    exec_stop_of_addressed s sender dest _ haddr]
  have honPause : onPause = .abort → a.work.kind = .home ∨ a.work.kind = .follow := by
    intro h
    by_contra hno
    rw [show onPause = .pause from if_neg hno] at h
    cases h
  refine ⟨fun r hr => ?_, fun hstand hw => ⟨?_, fun hp => ?_⟩, fun hw => ?_⟩
  · intro rate braking
    refine ⟨fun hstand hbrake hfast => ?_, fun hbrake => ?_, fun hbrake hslow => ⟨fun hw => ⟨?_, fun hp => ?_⟩,
      fun n hmove hcount hempty hroom => ?_⟩⟩
    · have hbraking : s.gen.brake = braking := by
        rw [s.gen.brake_run r hbrake hr, rampDown_eq, Nat.mul_one]
        rfl
      obtain ⟨habort, hpause⟩ := s.takeStop_brakes a ha hs hk (s.gen.stopsAtOnce_of_fast r hr hstand hbrake hfast)
      rw [habort, hpause, hbraking]
      exact ⟨rfl, rfl, rfl⟩
    · obtain ⟨habort, hpause⟩ := s.takeStop_brakes a ha hs hk (s.gen.stopsAtOnce_of_braking r hr hbrake)
      rw [habort, hpause, s.gen.brake_braking hbrake]
      exact ⟨rfl, rfl⟩
    · rw [s.takeStop_abortStands a ha hs (.inr (s.gen.stopsAtOnce_of_slow r hr hbrake hslow)) hw]
      rfl
    · rw [s.takeStop_pauseAborts a ha hs (honPause hp) (s.gen.stopsAtOnce_of_slow r hr hbrake hslow) hw]
      rfl
    · intro left
      have hcounted : s.gen.remaining r = signed s.gen.dir (n - r.emitted) := by
        rw [Gen.remaining, r.left_counted n hcount]
      have hleft : s.gen.remaining r = left := hcounted.trans (signed_eq _ _)
      rw [s.takeStop_pauseStands a ha hs (by simp [hmove])
        (.inr (s.gen.stopsAtOnce_of_slow r hr hbrake hslow)) (part := .move left)
        (fun u hu _ b hb _ => by rw [← hleft, ← hu]; exact u.remainingPart_move b r (by rw [hb, hmove]) (by rw [hu, hr]))
        hroom (by simp [hempty]), s.queue.unbound_of_nil hempty]
      rfl
  · rw [s.takeStop_abortStands a ha hs (.inr (s.gen.stopsAtOnce_of_standstill hstand)) hw]
    rfl
  · rw [s.takeStop_pauseAborts a ha hs (honPause hp) (s.gen.stopsAtOnce_of_standstill hstand) hw]
    rfl
  · rw [s.takeStop_abortNow a ha hs hw]
    rfl

end Sys2Proof.Machine

/-! ## Proofs: STOP and CONTINUE by the station state, and braking to its end (O32, O45) -/

namespace Sys2Proof.Machine

/-! ### ABORT-IMMEDIATE and the last step of a braking MOVE (R47, R48) -/

/-- What standstill makes of a MOVE whose signed rest is `left`, by its disposition (R48). -/
structure State.StandstillOfMove (s : State) (a : Active) (left : Int) (t : State) : Prop where
  faulted : a.faultEnded = true → t = s.stilled (s.seq.ended .faulted a.work.tag .faulted)
  abort : a.faultEnded = false → a.disposition = some .abort → s.noWork →
    t = s.stilled (s.seq.ended .idle a.work.tag .aborted)
  pause : a.faultEnded = false → a.disposition = some .pause → s.seq.paused = true →
    (∀ e ∈ s.queue.entries, e.insert = false) → s.stack.residuals.length < 3 →
    t = (s.stilled { s.seq with station := .idle, active := none }).setStack
      { s.stack with residuals := a.residual .pause (.move left) :: s.stack.residuals }
  pauseFull : a.faultEnded = false → a.disposition = some .pause → s.seq.paused = true →
    (∀ e ∈ s.queue.entries, e.insert = false) → 3 ≤ s.stack.residuals.length →
    t = (s.stilled (s.seq.ended .idle a.work.tag .aborted)).setStack { s.stack with
      overflow := true, overflowCount := satSucc 255 s.stack.overflowCount }
  halt : a.faultEnded = false → a.disposition = some .halt → s.seq.paused = false →
    s.groupHalted a.work.group = true → (∀ e ∈ s.queue.entries, e.insert = false) →
    s.stack.residuals.length < 3 →
    t = (s.stilled { s.seq with station := .held, active := none }).setStack
      { s.stack with residuals := a.residual .halt (.move left) :: s.stack.residuals }
  preempt : a.faultEnded = false → ∀ e es c, a.disposition = some .preempt → s.queue.entries = e :: es →
    e.insert = true → e.body = .dwell c → e.barrier = none → s.groupHalted e.group = false →
    s.drive.clear = .none →
    t = ((s.stilled { s.seq with
      station := .running
      active := some ⟨.segment e, none, false, false, none,
        some (s.link.cycle + BitVec.ofNat 16 c)⟩ }).setStack
      { s.stack with residuals := a.residual .preempt (.move left) :: s.stack.residuals }).setQueue
        { s.queue with entries := es }

theorem State.standstill_move (before s : State) (a : Active) (r : Run) (n : Nat)
    (ha : s.seq.active = some a) (hbefore : before.station ≠ .idle) (hk : a.work.kind = .move)
    (hr : s.gen.run = some r) (hn : r.count = some n) :
    s.StandstillOfMove a (signed s.gen.dir (n - r.emitted)) (before.enterIdle s.reachStandstill) := by
  have hpart : s.remainingPart a = some (.move (signed s.gen.dir (n - r.emitted))) := by
    rw [s.remainingPart_move a r hk hr, Gen.remaining, r.left_counted n hn]
  exact
    { faulted := before.standstill_faulted s a ha
      abort := before.standstill_abort s a ha hbefore
      pause := fun hf hd hp hi hroom => before.standstill_pause s a ha hbefore hf hd hpart hroom hp hi
      pauseFull := fun hf hd hp hi hfull => before.standstill_pauseFull s a ha hbefore hf hd hpart hfull hp hi
      halt := fun hf hd hp hg hi hroom => before.standstill_halt s a ha hbefore hf hd hpart hroom hp hg hi
      preempt := fun hf e es c hd he hi hbody hb hg hclear =>
        before.standstill_preempt s a ha hbefore hf hd hpart e es c he hi hbody hb hg hclear }

/-! ### STOP and CONTINUE by the station state (O32) -/

theorem stopModeOf_unknown (m : Byte) (h : 3 < m.toNat ∨ m = 0) : stopModeOf [m] = none := by
  have hbyte : byteAt [m] 0 = m := rfl
  have hnot : m.toNat ≠ 1 ∧ m.toNat ≠ 2 ∧ m.toNat ≠ 3 := by
    rcases h with h | rfl
    · omega
    · decide
  obtain ⟨h1, h2, h3⟩ := hnot
  rw [stopModeOf, if_neg (by simp), hbyte]
  split
  · contradiction
  · contradiction
  · contradiction
  · rfl

/-- Every known mode is one of three bytes. -/
theorem State.takeStop_known (s : State) (m : Byte) (h : m = 1 ∨ m = 2 ∨ m = 3) :
    ∃ mode, s.takeStop [m] = s.doStop mode := by
  rcases h with rfl | rfl | rfl
  · exact ⟨_, s.takeStop_abortDecel⟩
  · exact ⟨_, s.takeStop_abortImmediate⟩
  · exact ⟨_, s.takeStop_pause⟩

theorem State.doStop_faulted (s : State) (m : StopMode) (hs : s.station = .faulted) :
    s.doStop m = s.refuse .stop none .state := by rw [State.doStop, hs]

theorem State.doStop_armed (s : State) (m : StopMode) (hs : s.station = .armed) :
    s.doStop m = s.refuse .stop none .armed := by rw [State.doStop, hs]

theorem State.doStop_quiet (s : State) (m : StopMode)
    (hs : s.station = .idle ∨ s.station = .held ∨ s.station = .settling) : s.doStop m = s.stopQuiet m := by
  rcases hs with h | h | h <;> rw [State.doStop, h]

theorem State.takeContinue_latched (s : State) (hp : s.seq.paused = true) :
    s.takeContinue [] = (s.setSeq { s.seq with paused := false }).dispatch := by
  rw [State.takeContinue, if_neg (by simp), if_pos hp]

theorem State.takeContinue_unlatched (s : State) (hp : s.seq.paused = false) : s.takeContinue [] = s := by
  rw [State.takeContinue, if_neg (by simp), if_neg (by simp [hp])]

/-- A PAUSE while the latch is set or the station is not running (R45, R50). -/
theorem State.takeStop_pauseQuiet (s : State) :
    (s.station = .stopping ∨ s.station = .settling →
      s.takeStop [3] = s.setSeq { s.seq with paused := true }) ∧
    (s.station = .idle ∨ s.station = .held →
      (s.seq.paused = true → s.takeStop [3] = s) ∧
      (s.seq.paused = false → (∀ e ∈ s.queue.entries, e.insert = false) →
        s.takeStop [3] = s.setSeq { s.seq with paused := true, station := .idle })) := by
  rw [s.takeStop_pause]
  refine ⟨fun hs => ?_, fun hs => ⟨fun hp => ?_, fun hp hi => ?_⟩⟩
  · rcases hs with hs | hs
    · rw [s.doStop_stopping _ hs]
      rfl
    · rw [s.doStop_quiet _ (.inr (.inr hs)), State.stopQuiet,
        State.dispatch_busy s.setLatch (by rw [State.busy, show s.setLatch.station = .settling from hs]; simp)]
      split
      · rename_i hp
        rw [← hp]
        rfl
      · rfl
  · rw [s.doStop_quiet _ (hs.imp_right .inl), State.stopQuiet, if_pos hp]
  · rw [s.doStop_quiet _ (hs.imp_right .inl), State.stopQuiet, if_neg (by simp [hp]),
      State.dispatch_latched s.setLatch hs rfl hi]
    rfl

/-- Settles O32: the rows of R45, the latch, and the standstill of an ABORT-IMMEDIATE. -/
theorem stopAndContinueByStationState : Obligations.StopAndContinueByStationState := by
  refine ⟨fun s sender dest m haddr => ?_, fun s sender dest a haddr hs ha => ?_⟩
  · obtain ⟨hmoving, hresting⟩ := s.takeStop_pauseQuiet
    rw [exec_stop_of_addressed s sender dest _ haddr, exec_stop_of_addressed s sender dest _ haddr,
      exec_stop_of_addressed s sender dest _ haddr, exec_resume_of_addressed s sender dest [] haddr]
    refine ⟨fun hm => ?_, fun hm hs => ?_, fun hm hs => ?_, fun hm hs => ?_, fun hs => ?_,
      fun hs => congrArg _ (hmoving hs), fun hs => ⟨fun hp => congrArg _ ((hresting hs).1 hp),
        fun hp hi => congrArg _ ((hresting hs).2 hp hi)⟩, fun hp => congrArg _ (s.takeContinue_unlatched hp),
      fun hp hs => ?_⟩
    · rw [State.takeStop, stopModeOf_unknown m hm]
      rfl
    · obtain ⟨mode, hmode⟩ := s.takeStop_known m hm
      rw [hmode, s.doStop_faulted _ hs]
      rfl
    · obtain ⟨mode, hmode⟩ := s.takeStop_known m hm
      rw [hmode, s.doStop_armed _ hs]
      rfl
    · rcases hm with rfl | rfl
      · rw [s.takeStop_abortDecel, s.doStop_quiet _ hs]
        rfl
      · rw [s.takeStop_abortImmediate, s.doStop_quiet _ hs]
        rfl
    · rw [s.takeStop_abortDecel, s.doStop_stopping _ hs]
      rfl
    · rw [s.takeContinue_latched hp]
      rcases hs with hs | ⟨hs, hw⟩
      · exact congrArg Host.Outcome.next (State.dispatch_busy (s.setSeq _) hs)
      · exact congrArg Host.Outcome.next (State.dispatch_noWork_idle (s.setSeq _) hw hs)
  · intro stopped still
    have hstopped : stopped = .next (s.enterIdle s.reachStandstill) := by
      rw [show stopped = _ from exec_stop_of_addressed s sender dest _ haddr, s.takeStop_abortImmediate,
        s.doStop_stopping _ hs]
      rfl
    refine ⟨fun hf => ?_, fun hf => ⟨fun hd hw => ?_, fun r n hk hr hn => ?_⟩⟩
    · rw [hstopped, s.standstill_faulted s a ha hf]
      rfl
    · rw [hstopped, s.standstill_abort s a ha (by simp [hs]) hf hd hw]
      rfl
    · intro left rest
      have hrest := State.standstill_move s s a r n ha (by simp [hs]) hk hr hn
      rw [signed_eq] at hrest
      rw [hstopped]
      exact ⟨fun hd hp hi hroom => congrArg _ (hrest.pause hf hd hp hi hroom),
        fun hd hp hg hi hroom => congrArg _ (hrest.halt hf hd hp hg hi hroom),
        fun e es c hd he hi hbody hb hg hclear =>
          congrArg _ (hrest.preempt hf e es c hd he hi hbody hb hg hclear)⟩

/-! ### A DWELL that is stopped (R38, R46) -/

theorem segmentOf_unbound {own span : Nat} {p : Profile} {body : List Byte} {e : QueueEntry}
    (h : segmentOf own span p body = some e) : e.bound = false := by
  unfold segmentOf at h
  split at h
  · cases h
  · obtain ⟨-, h⟩ := Option.ite_none_right_eq_some.1 h
    rw [← Option.some.inj h]

theorem placeEntry_front (e : QueueEntry) (es : List QueueEntry) (he : e.insert = true)
    (hi : ∀ x ∈ es, x.insert = false) : placeEntry e es = e :: es := by
  cases es with
  | nil => rfl
  | cons x xs => simp [placeEntry, he, hi x List.mem_cons_self]

theorem SegQueue.unbound_inserts (q : SegQueue) (h : ∀ e ∈ q.entries, e.insert = false) :
    ∀ e ∈ q.unbound.entries, e.insert = false := by
  intro e he
  obtain ⟨x, hx, rfl⟩ := List.mem_map.1 he
  exact h x hx

section

variable (s : State) (a : Active) (stop : Cycle) (ha : s.seq.active = some a) (hs : s.station = .running)
  (hk : a.work.kind = .dwell) (hd : a.dwellEnd = some stop)

include ha hs hk hd

/-- The group of a running DWELL becomes HALTED (R38, R46, R123). -/
theorem State.groupBecameHalted_dwell (hhalted : s.groupHalted a.work.group = true)
    (hi : ∀ e ∈ s.queue.entries, e.insert = false) (hp : s.seq.paused = false)
    (hroom : s.stack.residuals.length < 3) : s.groupBecameHalted a.work.group =
      ((s.stilled { s.seq with station := .held, active := none }).setStack { s.stack with
        residuals := a.residual .halt (.dwell (stop - s.link.cycle).toNat) :: s.stack.residuals }).setQueue
          s.queue.unbound := by
  have hstops : s.groupBecameHalted a.work.group = s.enterIdle s.stopForHalt := by
    rw [State.groupBecameHalted, hs]
    exact if_pos (by simp [ha])
  have hstands := State.standstill_halt s (s.stopOrdered a .halt false) _ rfl (by simp [hs]) rfl rfl
    (State.remainingPart_dwell _ _ stop hk hd) hroom hp ((State.groupHalted_of_groups rfl _).trans hhalted)
    (s.queue.unbound_inserts hi)
  rw [hstops, State.stopForHalt, s.beginStop_stands .halt false false a ha (.inr (.inl hk)), hstands]
  rfl

/-- A HALT of the group of a running DWELL (R114, R123). -/
theorem State.raiseHalt_dwell (c : Cause) (o : Nat) (h1 : 1 ≤ a.work.group) (h15 : a.work.group ≤ 15)
    (hl : s.groups.length = 15) (hc : (s.group a.work.group).condition = .clear)
    (hi : ∀ e ∈ s.queue.entries, e.insert = false) (hp : s.seq.paused = false)
    (hroom : s.stack.residuals.length < 3) : s.raiseHalt a.work.group c o =
      ((((s.stilled { s.seq with station := .held, active := none }).setStack { s.stack with
        residuals := a.residual .halt (.dwell (stop - s.link.cycle).toNat) :: s.stack.residuals }).setQueue
          s.queue.unbound).setGroups (s.groups.set (a.work.group - 1)
            ⟨(s.group a.work.group).epoch + 1, .halted, true, c, some o, s.link.cycle⟩)) := by
  have hraised := s.raiseInTable_of_clear a.work.group c o h1 hc
  have hentry := s.group_raiseInTable_of_clear a.work.group c o h1 (h15.trans hl.ge) hc
  have hhalted : (s.raiseInTable a.work.group c o).groupHalted a.work.group = true := by
    rw [State.groupHalted, hentry, decide_eq_true (by omega : a.work.group ≠ 0)]
    rfl
  rw [s.raiseHalt_of_clear a.work.group c o h1 h15 hl hc]
  rw [hraised] at hhalted ⊢
  exact State.groupBecameHalted_dwell _ a stop ha hs hk hd hhalted hi hp hroom

/-- A DWELL INSERT that preempts a running DWELL (R38, R78). -/
theorem State.accept_dwellOverDwell (e : QueueEntry) (n : Nat) (hi : ∀ x ∈ s.queue.entries, x.insert = false)
    (he : e.insert = true) (hb : e.bound = false) (hbody : e.body = .dwell n) (hbarrier : e.barrier = none)
    (hg : s.groupHalted e.group = false) (hclear : s.drive.clear = .none) : s.accept e =
      ((s.stilled { s.seq with
        station := .running
        active := some ⟨.segment e, none, false, false, none,
          some (s.link.cycle + BitVec.ofNat 16 n)⟩ }).setStack { s.stack with
        residuals := a.residual .preempt (.dwell (stop - s.link.cycle).toNat) :: s.stack.residuals }).setQueue
          { s.queue.unbound with expected := s.queue.expected + 1, fresh := false } := by
  have hpreempts : s.preempts = true := by
    rw [s.preempts_of_running a hs ha, hk]
    rfl
  have heta : ({ e with bound := false } : QueueEntry) = e := by rw [← hb]
  have hstands := State.standstill_preempt
    (s.setQueue { s.queue with
      entries := e :: s.queue.entries, expected := s.queue.expected + 1, fresh := false })
    ((s.setQueue { s.queue with
      entries := e :: s.queue.entries, expected := s.queue.expected + 1, fresh := false }).stopOrdered
        a .preempt false) _ rfl (by simp [hs]) rfl rfl (State.remainingPart_dwell _ _ stop hk hd) e
    s.queue.unbound.entries n (by rw [← heta]; rfl) he hbody hbarrier
    ((State.groupHalted_of_groups rfl _).trans hg) hclear
  rw [State.accept, placeEntry_front e _ he hi]
  simp only [he, hpreempts, Bool.and_self, if_true]
  rw [State.beginStop_stands (s.setQueue { s.queue with
      entries := e :: s.queue.entries, expected := s.queue.expected + 1, fresh := false })
    .preempt false false a ha (.inr (.inl hk)), hstands]
  rfl

end

/-! ### The braking of a MOVE, step by step (R48, R66) -/

section

variable (s : State) (a : Active) (r : Run) (n : Nat) (hs : s.station = .stopping)
  (ha : s.seq.active = some a) (hk : a.work.kind = .move) (hwindow : s.cfg.followingWindow = 0)
  (hp : s.gen.phase = .braking) (hr : s.gen.run = some r) (hcount : r.count = some n)
  (hn : r.emitted + 1 < n)

include hs ha hk hwindow hp hr hcount hn

theorem exec_stepDue_brakes (hw : r.commitWatch = false) (hfast : r.profile.fs < r.nextRate) :
    exec .stepDue s = .next (s.setGen { s.gen with
      rate := r.nextRate, position := stepFrom s.gen.position s.gen.dir
      run := some { r with
        emitted := r.emitted + 1, baseSteps := r.baseSteps + 1
        nextRate := max r.profile.fs
          (Nat.sqrt (r.baseRate * r.baseRate - 2 * r.profile.d * (r.baseSteps + 2))) } }) := by
  have hphase : (s.gen.emitted r).phase = s.gen.phase := s.gen.emitted_phase_eq r (by simp [hp])
  rw [exec_stepDue_goesOn s a r ha (.inr hs) (.inl hk) hr (State.errorBeyond_of_noWindow _ hwindow)
    (.inr ⟨n, hcount, hn⟩) hw (fun _ => hfast), Gen.schedule_brakes _ r.stepped rfl (hphase.trans hp), hphase]
  rfl

theorem exec_stepDue_stands (hslow : r.nextRate ≤ r.profile.fs) :
    exec .stepDue s = .next (s.enterIdle (s.setGen (s.gen.emitted r)).reachStandstill) := by
  have hphase : (s.gen.emitted r).phase = .braking :=
    (s.gen.emitted_phase_eq r (by simp [hp])).trans hp
  have hended : r.stepped.ended = false := by
    rw [r.stepped_ended n hcount]
    exact decide_eq_false (by omega)
  have hhoming : (s.setGen (s.gen.emitted r)).homingRuns = false := by
    simp [State.homingRuns, hs]
  rw [exec_stepDue_run s r hr (.inr hs), State.stepRun,
    s.emitStep_counted a r ha (.inl hk) hr (State.errorBeyond_of_noWindow _ hwindow),
    State.afterStep_standstill (s.setGen (s.gen.emitted r)) r.stepped rfl hended hphase hslow,
    State.standstill, hhoming]
  rfl

end

theorem Gen.emitted_ceased (g : Gen) (r : Run) : (g.emitted r).ceased =
    { g with rate := r.nextRate, position := stepFrom g.position g.dir }.ceased := rfl

/-- Settles O45: a DWELL is at standstill with its stop, a MOVE with the step that comes down to Fs. -/
theorem brakingEndsByItsDisposition : Obligations.BrakingEndsByItsDisposition := by
  refine ⟨fun s sender dest a stop haddr hs ha hk hd _ => ?_,
    fun s a r n hs ha hk hwindow hp hr hcount hw hn => ?_⟩
  · intro rest still
    refine ⟨fun m hm hw => ?_, fun hi => ⟨fun hroom => ?_, fun g hg h1 h15 hl hc hp hroom => ?_,
      fun body e n hlen htag he hroom hinsert hstack hbody hb hg hclear => ?_⟩⟩
    · rw [exec_stop_of_addressed s sender dest _ haddr, show still = s.stilled s.seq from
        congrArg (s.stilled s.seq).setQueue (s.queue.unbound_of_nil hw.1)]
      rcases hm with rfl | rfl
      · exact congrArg _ (s.takeStop_abortStands a ha hs (.inl hk) hw)
      · exact congrArg _ (s.takeStop_abortNow a ha hs hw)
    · rw [exec_stop_of_addressed s sender dest _ haddr, s.takeStop_pauseStands a ha hs (by simp [hk]) (.inl hk)
        (part := .dwell (stop - s.link.cycle).toNat)
        (fun u _ hu b hb hbd => by rw [← hu]; exact u.remainingPart_dwell b stop (by rw [hb, hk]) (hbd.trans hd))
        hroom hi]
      rfl
    · rw [hg] at h1 h15 hc ⊢
      rw [exec_halt_of_addressed s sender dest _ haddr, s.takeHalt_of_group sender g (by omega) (by omega), hg,
        s.raiseHalt_dwell a stop ha hs hk hd .commanded sender h1 h15 hl hc hi hp hroom]
      rfl
    · have hpreempts : s.preempts = true := by
        rw [s.preempts_of_running a hs ha, hk]
        rfl
      have hnone : s.acceptRefusal e = none := by
        rw [s.acceptRefusal_of_insert e hroom hinsert, s.insertRefusal_of_running hs, if_pos hpreempts,
          if_pos (by omega)]
      rw [exec_segment_of_addressed s sender dest _ haddr, s.takeSegment_of_accepted body e hlen htag he hnone,
        s.accept_dwellOverDwell a stop ha hs hk hd e n hi hinsert (segmentOf_unbound he) hbody hb hg hclear]
      rfl
  · intro moved left rest still
    refine ⟨fun hfast => ?_, fun hslow => ?_⟩
    · have hbrakes := exec_stepDue_brakes s a r n hs ha hk hwindow hp hr hcount hn hw hfast
      rw [stepFrom_eq] at hbrakes
      exact hbrakes
    · have hrest := State.standstill_move s (s.setGen (s.gen.emitted r)) a r.stepped n ha (by simp [hs]) hk rfl
        hcount
      have hstilled : ∀ q, (s.setGen (s.gen.emitted r)).stilled q = { still with seq := q } := by
        intro q
        simp only [State.stilled, State.setGen_gen, s.gen.emitted_ceased, stepFrom_eq]
        rfl
      have hleft : signed (s.setGen (s.gen.emitted r)).gen.dir (n - r.stepped.emitted) = left := by
        rw [signed_eq]
        rfl
      rw [hleft] at hrest
      rw [exec_stepDue_stands s a r n hs ha hk hwindow hp hr hcount hn hslow]
      refine ⟨fun hf => ?_, fun hf => ⟨fun hd hw => ?_, fun hd hpause hi => ⟨fun hroom => ?_, fun hfull => ?_⟩,
        fun hd hpause hg hi hroom => ?_, fun e es c hd he hi hbody hb hg hclear => ?_⟩⟩
      · rw [hrest.faulted hf, hstilled]
        rfl
      · rw [hrest.abort hf hd hw, hstilled]
        rfl
      · rw [hrest.pause hf hd hpause hi hroom, hstilled]
        rfl
      · rw [hrest.pauseFull hf hd hpause hi hfull, hstilled]
        rfl
      · rw [hrest.halt hf hd hpause hg hi hroom, hstilled]
        rfl
      · rw [hrest.preempt hf e es c hd he hi hbody hb hg hclear, hstilled]
        rfl

end Sys2Proof.Machine

/-! ## Proofs: the encoder and settling (O51) -/

namespace Sys2Proof.Machine

/-! ### One change of the pair (R155, R156) -/

/-- A single change counts one edge at most. -/
theorem singleEdges_eq (mode : EncoderMode) (old : Bool × Bool) (a b : Bool) (hne : (a, b) ≠ old)
    (hsingle : old.1 = a ∨ old.2 = b) : singleEdges mode old (a, b) =
      Option.toList (if old.1 ≠ a then
        match mode with
        | .off => none
        | .quad1 => if a = true then some (if b = true then .neg else .pos) else none
        | .quad2 => some (if a ≠ b then .pos else .neg)
        | .quad4 => some (if a ≠ b then .pos else .neg)
        | .upDown => if a = true then some .pos else none
      else
        match mode with
        | .off => none
        | .quad1 => none
        | .quad2 => none
        | .quad4 => some (if b = a then .pos else .neg)
        | .upDown => if b = true then some .neg else none) := by
  obtain ⟨x, y⟩ := old
  cases mode <;> revert x y a b <;> decide

theorem exec_encoderChange (s : State) (a b : Bool) (hload : s.loader.load = .loaded)
    (hne : (s.drive.encA, s.drive.encB) ≠ (a, b)) :
    exec (.encoderChange a b) s = .next (s.enterIdle (s.pairChange a b)) :=
  congrArg Host.Outcome.next (if_pos ⟨beq_iff_eq.2 hload, hne⟩)

theorem doubleChange_iff (old new : Bool × Bool) :
    doubleChange old new = true ↔ old.1 ≠ new.1 ∧ old.2 ≠ new.2 := by simp [doubleChange]

section

variable (s : State) (old : Bool × Bool) (a b : Bool) (hold : s.encoder.pair = some old)

include hold

theorem State.lastPair_of_some : s.lastPair = old := by rw [State.lastPair, hold]; rfl

/-- A single change (R155). -/
theorem State.pairChange_single (h : old.1 = a ∨ old.2 = b) : s.pairChange a b =
    (s.takePair a b).countEdges ((singleEdges s.cfg.encoderMode old (a, b)).map s.cfg.sensed) := by
  have hnot : doubleChange old (a, b) = false := by
    rw [← Bool.not_eq_true, doubleChange_iff]
    exact fun hd => h.elim hd.1 hd.2
  rw [State.pairChange, s.lastPair_of_some old hold, State.edgesOf, hnot]
  rfl

/-- A double change outside UP/DOWN mode (R156). -/
theorem State.pairChange_double (ha : old.1 ≠ a) (hb : old.2 ≠ b) (hmode : s.cfg.encoderMode ≠ .upDown) :
    s.pairChange a b = if s.cfg.encoderMode.quadrature then
      (s.takePair a b).faultOfActive .encoderError else s.takePair a b := by
  have hdouble : doubleChange old (a, b) = true := (doubleChange_iff _ _).2 ⟨ha, hb⟩
  rw [State.pairChange, s.lastPair_of_some old hold, State.edgesOf, hdouble, if_pos rfl, if_neg hmode,
    Bool.true_and]
  rfl

/-- A double change in UP/DOWN mode (R155). -/
theorem State.pairChange_upDown (ha : old.1 ≠ a) (hb : old.2 ≠ b) (hmode : s.cfg.encoderMode = .upDown) :
    s.pairChange a b = (s.takePair a b).countEdges
      (s.encoder.bothEdges s.cfg.divisor (s.cfg.sensed .pos)) := by
  have hdouble : doubleChange old (a, b) = true := (doubleChange_iff _ _).2 ⟨ha, hb⟩
  rw [State.pairChange, s.lastPair_of_some old hold, State.edgesOf, hdouble, if_pos rfl, if_pos hmode, hmode]
  rfl

end

/-! ### One counted edge (R157 to R159) -/

/-- An edge leaves the recorded pair alone. -/
theorem Encoder.edge_keepsPair (e : Encoder) (n : Nat) (d : Side) : (e.edge n d).pair = e.pair := by
  cases d <;> simp only [Encoder.edge] <;> split <;> rfl

theorem State.errorBeyond_iff (s : State) : s.errorBeyond = true ↔
    (s.cfg.encoderMode ≠ .off ∧ s.cfg.followingWindow ≠ 0) ∧
      s.cfg.followingWindow < ((s.gen.position - s.encoder.position).toInt).natAbs := by
  simp [State.errorBeyond, State.encoderOn, State.followingError, diff32]

/-- An encoder position takes the following error beyond its window (R158). -/
def State.crosses (s : State) (e : Encoder) : Prop :=
  s.errorBeyond = false ∧ (s.setEncoder e).errorBeyond = true

theorem State.crosses_iff (s : State) (e : Encoder) : s.crosses e ↔
    (s.cfg.encoderMode ≠ .off ∧ s.cfg.followingWindow ≠ 0) ∧
      ((s.gen.position - s.encoder.position).toInt).natAbs ≤ s.cfg.followingWindow ∧
        s.cfg.followingWindow < ((s.gen.position - e.position).toInt).natAbs := by
  have hafter := (s.setEncoder e).errorBeyond_iff
  rw [State.crosses, hafter, ← Bool.not_eq_true, s.errorBeyond_iff, not_and, Nat.not_lt]
  constructor
  · rintro ⟨hb, hc, ha⟩
    exact ⟨hc, hb hc, ha⟩
  · rintro ⟨hc, hb, ha⟩
    exact ⟨fun _ => hb, hc, ha⟩

theorem State.settleTest_other (s : State) (h : s.station ≠ .settling) : s.settleTest = s :=
  if_neg fun hs => h hs.1

theorem State.checkFollowing_crosses (s : State) (e : Encoder) (h : s.crosses e) :
    s.checkFollowing (s.setEncoder e) = (s.setEncoder e).faultOfActive .followingError := by
  rw [State.checkFollowing, h.1, h.2]
  rfl

theorem State.checkFollowing_within (s : State) (e : Encoder) (h : ¬ s.crosses e) :
    s.checkFollowing (s.setEncoder e) = s.setEncoder e := by
  refine if_neg fun hc => h ?_
  simpa [State.crosses] using hc

theorem State.not_crosses_same (s : State) (e : Encoder) (h : e.position = s.encoder.position) :
    ¬ s.crosses e := by
  rw [s.crosses_iff, h]
  omega

section

variable (s : State) (o : Option Side)

/-- The encoder after at most one counted edge (R157). -/
def Encoder.after (e : Encoder) (divisor : Nat) : Option Side → Encoder
  | none => e
  | some d => e.edge divisor d

theorem Encoder.after_pair (e : Encoder) (n : Nat) (o : Option Side) : (e.after n o).pair = e.pair := by
  cases o with
  | none => rfl
  | some d => exact e.edge_keepsPair n d

/-- At most one counted edge outside SETTLING, within the following window or OFFLINE. -/
theorem State.countEdges_within (hs : s.station ≠ .settling)
    (h : ¬ s.crosses (s.encoder.after s.cfg.divisor o) ∨ s.station = .offline) :
    s.countEdges o.toList = s.setEncoder (s.encoder.after s.cfg.divisor o) := by
  cases o with
  | none => rfl
  | some d =>
    have hchecked : s.checkFollowing (s.setEncoder (s.encoder.edge s.cfg.divisor d)) =
        s.setEncoder (s.encoder.edge s.cfg.divisor d) := by
      by_cases hc : s.crosses (s.encoder.edge s.cfg.divisor d)
      · rw [s.checkFollowing_crosses _ hc]
        exact State.recordFault_offline _ _ _ (h.resolve_left fun hn => hn hc)
      · exact s.checkFollowing_within _ hc
    have hedge : s.countEdges (some d).toList = s.countEdge d := rfl
    rw [hedge, State.countEdge, hchecked,
      State.settleTest_other (s.setEncoder (s.encoder.edge s.cfg.divisor d)) hs]
    exact ite_self _

/-- A counted edge that takes the error beyond the window, from IDLE onward (R158). -/
theorem State.countEdges_crosses (h : s.crosses (s.encoder.after s.cfg.divisor o))
    (hfault : ((s.setEncoder (s.encoder.after s.cfg.divisor o)).faultOfActive .followingError).station =
      .faulted) : s.countEdges o.toList =
      (s.setEncoder (s.encoder.after s.cfg.divisor o)).faultOfActive .followingError := by
  cases o with
  | none => exact absurd h (s.not_crosses_same _ rfl)
  | some d =>
    have hmoved : (s.setEncoder (s.encoder.edge s.cfg.divisor d)).encoder.position ≠ s.encoder.position :=
      fun he => s.not_crosses_same _ he h
    have hedge : s.countEdges (some d).toList = s.countEdge d := rfl
    rw [hedge, State.countEdge, s.checkFollowing_crosses (s.encoder.edge s.cfg.divisor d) h]
    exact (if_neg hmoved).trans (State.settleTest_other _ fun hset => by cases hfault.symm.trans hset)

/-- At most one counted edge in SETTLING, within the following window (R159). -/
theorem State.countEdges_settling (hs : s.station = .settling)
    (h : ¬ s.crosses (s.encoder.after s.cfg.divisor o)) :
    ((s.encoder.after s.cfg.divisor o).position = s.encoder.position ∨
      (s.setEncoder (s.encoder.after s.cfg.divisor o)).errorSettled = false →
      s.countEdges o.toList = s.setEncoder (s.encoder.after s.cfg.divisor o)) ∧
    ((s.encoder.after s.cfg.divisor o).position ≠ s.encoder.position →
      (s.setEncoder (s.encoder.after s.cfg.divisor o)).errorSettled = true →
      s.countEdges o.toList = (s.setEncoder (s.encoder.after s.cfg.divisor o)).endRecord .done) := by
  cases o with
  | none => exact ⟨fun _ => rfl, fun hne => absurd rfl hne⟩
  | some d =>
    have hedge : s.countEdges (some d).toList = s.countEdge d := rfl
    rw [hedge, State.countEdge]
    dsimp only [Encoder.after] at h ⊢
    rw [s.checkFollowing_within _ h]
    refine ⟨fun hkept => ?_, fun hmoved hsettled => ?_⟩
    · rcases hkept with hsame | hopen
      · exact if_pos hsame
      · have htest : (s.setEncoder (s.encoder.edge s.cfg.divisor d)).settleTest =
            s.setEncoder (s.encoder.edge s.cfg.divisor d) := if_neg fun hc => by simp [hopen] at hc
        rw [htest, ite_self]
    · exact (if_neg hmoved).trans (if_pos ⟨hs, hsettled⟩)

end

/-! ### A double change in UP/DOWN mode (R155) -/

/-- An edge counts without regard to the recorded pair. -/
theorem Encoder.edge_pair (e : Encoder) (n : Nat) (d : Side) (p : Option (Bool × Bool)) :
    ({ e with pair := p } : Encoder).edge n d = { e.edge n d with pair := p } := by
  cases d <;> simp only [Encoder.edge] <;> split <;> rfl

/-- Which order of the two edges comes back to the count does not depend on the recorded pair. -/
theorem Encoder.bothEdges_pair (e : Encoder) (n : Nat) (up : Side) (p : Option (Bool × Bool)) :
    ({ e with pair := p } : Encoder).bothEdges n up = e.bothEdges n up := by
  have hback : (({ e with pair := p } : Encoder).edge n up).edge n (opposite up) = { e with pair := p } ↔
      (e.edge n up).edge n (opposite up) = e := by
    rw [e.edge_pair n up p, (e.edge n up).edge_pair n (opposite up) p]
    generalize hx : (e.edge n up).edge n (opposite up) = x
    have hpair : x.pair = e.pair := by rw [← hx, Encoder.edge_keepsPair, Encoder.edge_keepsPair]
    obtain ⟨position, remainder, pair, settle⟩ := x
    obtain rfl : pair = e.pair := hpair
    obtain ⟨position', remainder', pair', settle'⟩ := e
    simp
  simp only [Encoder.bothEdges, hback]

section

variable (e : Encoder) (n : Nat)

theorem Encoder.edge_pos (h : e.remainder + 1 < n) :
    e.edge n .pos = { e with remainder := e.remainder + 1 } := if_neg (Int.not_le.2 h)

theorem Encoder.edge_posCarry (h : (n : Int) ≤ e.remainder + 1) :
    e.edge n .pos = { e with position := e.position + 1, remainder := 0 } := if_pos h

theorem Encoder.edge_neg (h : -(n : Int) < e.remainder - 1) :
    e.edge n .neg = { e with remainder := e.remainder - 1 } := if_neg (Int.not_le.2 h)

theorem Encoder.edge_negCarry (h : e.remainder - 1 ≤ -(n : Int)) :
    e.edge n .neg = { e with position := e.position - 1, remainder := 0 } := if_pos h

/-- Up and down again, short of a carry; with a divisor of 1 both carry (R157). -/
theorem Encoder.edges_upDown (hr : e.remainder.natAbs < n) (h : e.remainder + 1 < n ∨ n = 1) :
    (e.edge n .pos).edge n .neg = e := by
  rcases h with h | rfl
  · rw [e.edge_pos n h, Encoder.edge_neg _ n (by dsimp only; omega)]
    simp
  · have hzero : e.remainder = 0 := by omega
    rw [e.edge_posCarry 1 (by omega), Encoder.edge_negCarry _ 1 (by simp)]
    simp [← hzero]

/-- Down and up again, short of a carry; with a divisor of 1 both carry (R157). -/
theorem Encoder.edges_downUp (hr : e.remainder.natAbs < n) (h : -(n : Int) < e.remainder - 1 ∨ n = 1) :
    (e.edge n .neg).edge n .pos = e := by
  rcases h with h | rfl
  · rw [e.edge_neg n h, Encoder.edge_pos _ n (by dsimp only; omega)]
    simp
  · have hzero : e.remainder = 0 := by omega
    rw [e.edge_negCarry 1 (by omega), Encoder.edge_posCarry _ 1 (by simp)]
    simp [← hzero]

/-- One order of two opposite edges leaves the count where it was. -/
theorem Encoder.edges_return (hr : e.remainder.natAbs < n) (up : Side) :
    (e.edge n up).edge n (opposite up) = e ∨ (e.edge n (opposite up)).edge n up = e := by
  have heither : (e.edge n .pos).edge n .neg = e ∨ (e.edge n .neg).edge n .pos = e := by
    by_cases h : e.remainder + 1 < n ∨ n = 1
    · exact .inl (e.edges_upDown n hr h)
    · exact .inr (e.edges_downUp n hr (by omega))
  cases up
  · exact heither
  · exact heither.symm

end

/-- The two edges of a double change come back to the count they start from (R155, log 12). -/
theorem Encoder.bothEdges_return (e : Encoder) (n : Nat) (hr : e.remainder.natAbs < n)
    (up : Side) : (e.bothEdges n up).foldl (fun e d => e.edge n d) e = e := by
  unfold Encoder.bothEdges
  split
  · assumption
  · exact (e.edges_return n hr up).resolve_left ‹_›

/-- Edges without a following check and outside SETTLING only count (R157). -/
theorem State.countEdges_unchecked (s : State) (ds : List Side) (hw : s.cfg.followingWindow = 0)
    (hs : s.station ≠ .settling) :
    s.countEdges ds = s.setEncoder (ds.foldl (fun e d => e.edge s.cfg.divisor d) s.encoder) := by
  induction ds generalizing s with
  | nil => rfl
  | cons d ds ih =>
    have hone : s.countEdge d = s.setEncoder (s.encoder.edge s.cfg.divisor d) :=
      s.countEdges_within (some d) hs (.inl fun hc => ((s.crosses_iff _).1 hc).1.2 hw)
    have hcons : s.countEdges (d :: ds) = (s.countEdge d).countEdges ds := rfl
    rw [hcons, hone, ih (s.setEncoder (s.encoder.edge s.cfg.divisor d)) hw hs]
    rfl

/-! ### Encoder changes (O51) -/

/-- What a fault from the encoder leaves of the state (R156, R158, R183). -/
def State.encoderFaulted (s t : State) (k : FaultKind) : Prop :=
  t.station = .faulted ∧ t.seq.active = none ∧ t.seq.homed = false ∧ t.seq.paused = s.seq.paused ∧
    t.stack = s.stack ∧ t.gen.position = s.gen.position ∧ t.encoder.position = s.encoder.position ∧
    t.encoder.remainder = s.encoder.remainder ∧ t.encoder.pair = s.encoder.pair ∧
    t.faults = s.faults.record ⟨k, s.link.cycle, s.seq.active.map (fun a => a.work.tag), s.gen.position⟩ ∧
    t.groups = (s.raiseInvolved .fault s.own).groups ∧
    t.seq.lastFinished = (match s.seq.active with
      | none => s.seq.lastFinished
      | some a => some (a.work.tag, .faulted))

theorem State.faultOfActive_encoder (s : State) (k : FaultKind) (hrec : s.recordOk)
    (hs : s.station ≠ .offline) (hi : k.immediate = true) (hh : k.clearsHomed = true) :
    s.encoderFaulted (s.faultOfActive k) k := by
  obtain ⟨q, b, g, h, f, heq⟩ := s.recordFault_immediate k s.activeTag hrec hs hi
  have hhomed : s.homedAfter k = false := by simp [State.homedAfter, hh]
  rw [State.faultOfActive, heq, hhomed]
  exact ⟨rfl, rfl, rfl, rfl, rfl, rfl, rfl, rfl, rfl, rfl, rfl, rfl⟩

theorem State.encoderFaulted.enterIdle {s t : State} {k : FaultKind} (h : s.encoderFaulted t k)
    (before : State) : before.enterIdle t = t :=
  before.enterIdle_other t fun hi => by cases h.1.symm.trans hi

/-- A single change of the pair, by the one edge it may count (R155, R157 to R159). -/
theorem exec_encoderChange_single (s : State) (a b : Bool) (o : Option Side)
    (hexec : exec (.encoderChange a b) s = .next (s.enterIdle ((s.takePair a b).countEdges o.toList))) :
    (s.station ≠ .settling →
      ¬ (s.takePair a b).crosses ((s.takePair a b).encoder.after s.cfg.divisor o) ∨ s.station = .offline →
      exec (.encoderChange a b) s =
        .next ((s.takePair a b).setEncoder ((s.takePair a b).encoder.after s.cfg.divisor o))) ∧
    (s.recordInv → s.station ≠ .offline →
      (s.takePair a b).crosses ((s.takePair a b).encoder.after s.cfg.divisor o) →
      ∃ t, exec (.encoderChange a b) s = .next t ∧
        ((s.takePair a b).setEncoder ((s.takePair a b).encoder.after s.cfg.divisor o)).encoderFaulted t
          .followingError) ∧
    (∀ x, s.station = .settling → s.seq.active = some x →
      ¬ (s.takePair a b).crosses ((s.takePair a b).encoder.after s.cfg.divisor o) →
      (((s.takePair a b).encoder.after s.cfg.divisor o).position = s.encoder.position ∨
          ((s.takePair a b).setEncoder ((s.takePair a b).encoder.after s.cfg.divisor o)).errorSettled = false →
        exec (.encoderChange a b) s =
          .next ((s.takePair a b).setEncoder ((s.takePair a b).encoder.after s.cfg.divisor o))) ∧
      (((s.takePair a b).encoder.after s.cfg.divisor o).position ≠ s.encoder.position →
        ((s.takePair a b).setEncoder ((s.takePair a b).encoder.after s.cfg.divisor o)).errorSettled = true →
        s.noWork → exec (.encoderChange a b) s =
          .next (((s.takePair a b).setEncoder { (s.takePair a b).encoder.after s.cfg.divisor o with
            settle := none }).stilled (s.seq.ended .idle x.work.tag .done)))) := by
  rw [hexec]
  refine ⟨fun hs h => ?_, fun hrec hs hc => ?_, fun x hs hx h => ?_⟩
  · rw [State.countEdges_within (s.takePair a b) o hs h]
    exact congrArg Host.Outcome.next (s.enterIdle_same _ rfl)
  · have hfaulted := State.faultOfActive_encoder
      ((s.takePair a b).setEncoder ((s.takePair a b).encoder.after s.cfg.divisor o)) .followingError hrec.1 hs
      rfl rfl
    rw [State.countEdges_crosses (s.takePair a b) o hc hfaulted.1]
    exact ⟨_, congrArg Host.Outcome.next (hfaulted.enterIdle s), hfaulted⟩
  · obtain ⟨hkept, hsettles⟩ := State.countEdges_settling (s.takePair a b) o hs h
    refine ⟨fun hopen => ?_, fun hmoved hsettled hw => ?_⟩
    · rw [hkept hopen]
      exact congrArg Host.Outcome.next (s.enterIdle_same _ rfl)
    · rw [hsettles hmoved hsettled, State.endRecord_some ((s.takePair a b).setEncoder _) .done x hx,
        s.enterIdle_entered _ rfl (by simp [hs])]
      exact congrArg Host.Outcome.next (State.dispatch_noWork_idle _ hw rfl)

end Sys2Proof.Machine

/-! ## Proofs: what an encoder change and a last step bring (O51) -/

namespace Sys2Proof.Machine

/-- The encoder after at most one edge, written out (R157). -/
theorem Encoder.after_eq (e : Encoder) (n : Nat) (o : Option Side) : e.after n o = match o with
    | none => e
    | some .pos =>
      if (n : Int) ≤ e.remainder + 1 then { e with position := e.position + 1, remainder := 0 }
      else { e with remainder := e.remainder + 1 }
    | some .neg =>
      if e.remainder - 1 ≤ -(n : Int) then { e with position := e.position - 1, remainder := 0 }
      else { e with remainder := e.remainder - 1 } := by
  cases o with
  | none => rfl
  | some d => cases d <;> rfl

theorem State.errorSettled_eq_false (s : State) : s.errorSettled = false ↔
    s.cfg.settleWindow < ((s.gen.position - s.encoder.position).toInt).natAbs := by
  simp [State.errorSettled, State.followingError, diff32]

theorem State.errorSettled_iff (s : State) : s.errorSettled = true ↔
    ((s.gen.position - s.encoder.position).toInt).natAbs ≤ s.cfg.settleWindow := by
  simp [State.errorSettled, State.followingError, diff32]

/-- A single change counts what O51 calls its sensed edge (R155). -/
theorem exec_encoderChange_edges (s : State) (old : Bool × Bool) (a b : Bool) (o : Option Side)
    (hload : s.loader.load = .loaded) (hold : s.encoder.pair = some old)
    (hdrive : (s.drive.encA, s.drive.encB) = old) (hne : (a, b) ≠ old) (h : old.1 = a ∨ old.2 = b)
    (ho : singleEdges s.cfg.encoderMode old (a, b) = o.toList) :
    exec (.encoderChange a b) s =
      .next (s.enterIdle ((s.takePair a b).countEdges (o.map s.cfg.sensed).toList)) := by
  rw [exec_encoderChange s a b hload (by rw [hdrive]; exact hne.symm), s.pairChange_single old a b hold h, ho]
  cases o <;> rfl

/-- A double change of the pair (R155, R156). -/
theorem exec_encoderChange_double (s : State) (old : Bool × Bool) (a b : Bool)
    (hload : s.loader.load = .loaded) (hold : s.encoder.pair = some old)
    (hdrive : (s.drive.encA, s.drive.encB) = old) (ha : old.1 ≠ a) (hb : old.2 ≠ b) :
    (s.cfg.encoderMode = .off → exec (.encoderChange a b) s = .next (s.takePair a b)) ∧
    (s.cfg.encoderMode = .quad1 ∨ s.cfg.encoderMode = .quad2 ∨ s.cfg.encoderMode = .quad4 →
      (s.station = .offline → exec (.encoderChange a b) s = .next (s.takePair a b)) ∧
      (s.recordInv → s.station ≠ .offline → ∃ t, exec (.encoderChange a b) s = .next t ∧
        (s.takePair a b).encoderFaulted t .encoderError)) ∧
    (s.cfg.encoderMode = .upDown → s.cfg.followingWindow = 0 → s.station ≠ .settling →
      s.encoder.remainder.natAbs < s.cfg.divisor →
      exec (.encoderChange a b) s = .next (s.takePair a b)) := by
  have hne : (a, b) ≠ old := fun h => ha (by rw [← h])
  rw [exec_encoderChange s a b hload (by rw [hdrive]; exact hne.symm)]
  refine ⟨fun hmode => ?_, fun hmode => ?_, fun hmode hw hs hr => ?_⟩
  · rw [s.pairChange_double old a b hold ha hb (by simp [hmode]), hmode]
    exact congrArg Host.Outcome.next (s.enterIdle_same (s.takePair a b) rfl)
  · have hquadrature : s.cfg.encoderMode.quadrature = true ∧ s.cfg.encoderMode ≠ .upDown := by
      rcases hmode with h | h | h <;> rw [h] <;> exact ⟨rfl, by simp⟩
    rw [s.pairChange_double old a b hold ha hb hquadrature.2, if_pos hquadrature.1]
    refine ⟨fun hs => ?_, fun hrec hs => ?_⟩
    · rw [State.faultOfActive, State.recordFault_offline (s.takePair a b) _ _ hs]
      exact congrArg Host.Outcome.next (s.enterIdle_same (s.takePair a b) rfl)
    · have hfaulted := State.faultOfActive_encoder (s.takePair a b) .encoderError hrec.1 hs rfl rfl
      exact ⟨_, congrArg Host.Outcome.next (hfaulted.enterIdle s), hfaulted⟩
  · have hreturn := Encoder.bothEdges_return (s.takePair a b).encoder s.cfg.divisor hr (s.cfg.sensed .pos)
    have hedges : s.encoder.bothEdges s.cfg.divisor (s.cfg.sensed .pos) =
        (s.takePair a b).encoder.bothEdges s.cfg.divisor (s.cfg.sensed .pos) :=
      (Encoder.bothEdges_pair s.encoder _ _ (some (a, b))).symm
    rw [s.pairChange_upDown old a b hold ha hb hmode, hedges,
      State.countEdges_unchecked (s.takePair a b) _ hw hs]
    have htaken : (s.takePair a b).setEncoder (((s.takePair a b).encoder.bothEdges s.cfg.divisor
        (s.cfg.sensed .pos)).foldl (fun e d => e.edge s.cfg.divisor d) (s.takePair a b).encoder) =
          s.takePair a b := by rw [hreturn]; rfl
    exact congrArg Host.Outcome.next ((congrArg s.enterIdle htaken).trans (s.enterIdle_same _ rfl))

/-- A step that takes the following error beyond its window (R52, R58, R158). -/
theorem exec_stepDue_crosses (s : State) (a : Active) (r : Run) (hs : s.station = .running)
    (ha : s.seq.active = some a) (hk : a.work.kind = .move ∨ a.work.kind = .goto)
    (hr : s.gen.run = some r) (hbefore : s.errorBeyond = false)
    (hafter : (s.setGen (s.gen.emitted r)).errorBeyond = true) :
    ∃ t, exec .stepDue s = .next t ∧
      t.seq = { s.seq.ended .faulted a.work.tag .faulted with homed := false } ∧
      t.gen = (s.gen.emitted r).ceased ∧ t.stack = s.stack ∧
      t.faults = s.faults.record ⟨.followingError, s.link.cycle, some a.work.tag,
        (s.gen.emitted r).position⟩ ∧
      t.groups = (s.raiseInvolved .fault s.own).groups := by
  have hspent : s.travelSpent = false := by
    rcases hk with h | h <;> simp [State.travelSpent, s.activeKind_some a ha, h]
  have hfault := State.recordFault_endsRunning (s.setGen (s.gen.emitted r)) .followingError (some a.work.tag) a
    ha hs (.inl rfl)
  have hchecked : s.checkFollowing (s.setGen (s.gen.emitted r)) =
      (s.setGen (s.gen.emitted r)).recordFault .followingError (some a.work.tag) := by
    rw [State.checkFollowing, hbefore, hafter, ← State.activeTag_some (s.setGen (s.gen.emitted r)) a ha]
    rfl
  have hemitted : s.emitStep =
      (s.setGen (s.gen.emitted r)).recordFault .followingError (some a.work.tag) := by
    rw [State.emitStep, if_neg (by simp [hspent]), s.gen.emit_run r hr, hchecked, hfault]
    rfl
  have hstep : s.stepRun = (s.setGen (s.gen.emitted r)).recordFault .followingError (some a.work.tag) := by
    rw [State.stepRun, hemitted, hfault]
    rfl
  rw [exec_stepDue_run s r hr (.inl hs), hstep, hfault,
    s.enterIdle_other _ (by simp [State.station, Sequencer.ended])]
  exact ⟨_, rfl, rfl, rfl, rfl, rfl, rfl⟩

/-- The last step of a record that settles (R35, R37, R159). -/
theorem exec_stepDue_settles (s : State) (a : Active) (r : Run) (n : Nat) (hs : s.station = .running)
    (ha : s.seq.active = some a) (hk : a.work.kind = .move ∨ a.work.kind = .goto)
    (hmode : s.cfg.encoderMode ≠ .off) (hr : s.gen.run = some r) (hcount : r.count = some n)
    (hwindow : s.cfg.followingWindow = 0) (hn : r.emitted + 1 = n) (hb : a.bound = none)
    (hf : a.faultEnded = false) (hsettle : s.cfg.settleWindow ≠ 0) :
    ((s.setGen (s.gen.emitted r)).errorSettled = false → exec .stepDue s = .next { s with
      gen := (s.gen.emitted r).ceased
      encoder := { s.encoder with settle := some 0 }
      seq := { s.seq with
        station := .settling
        active := some { a with disposition := none, reserved := false } } }) ∧
    ((s.setGen (s.gen.emitted r)).errorSettled = true → s.noWork → exec .stepDue s = .next
      ((s.setGen (s.gen.emitted r)).stilled (s.seq.ended .idle a.work.tag .done))) := by
  have hends : ((s.setGen (s.gen.emitted r)).setGen (s.gen.emitted r).ceased).settlesAtEnd = true := by
    have hsame : ((s.setGen (s.gen.emitted r)).setGen (s.gen.emitted r).ceased).settlesAtEnd =
      s.settlesAtEnd := rfl
    rw [hsame]
    simp [State.settlesAtEnd, State.encoderOn, hmode, hsettle]
  have hstep : s.stepRun = ((s.setGen (s.gen.emitted r)).setGen (s.gen.emitted r).ceased).enterSettling := by
    rw [s.stepRun_last a r n ha hk hr hcount hn (State.errorBeyond_of_noWindow _ hwindow),
      State.lastCounted_completes _ a _ (.inl hb)]
    exact State.completeWork_settles _ a ha hf (by rcases hk with h | h <;> rw [h] <;> rfl) hends
  generalize hu : ({ s with
      gen := (s.gen.emitted r).ceased
      encoder := { s.encoder with settle := some 0 }
      seq := { s.seq with
        station := .settling
        active := some { a with disposition := none, reserved := false } } } : State) = u
  have hentered : ((s.setGen (s.gen.emitted r)).setGen (s.gen.emitted r).ceased).enterSettling =
      u.settleTest := by
    rw [State.enterSettling, ← hu]
    simp only [State.setGen_seq, State.setEncoder_seq, ha]
    rfl
  have herror : u.errorSettled = (s.setGen (s.gen.emitted r)).errorSettled := by rw [← hu]; rfl
  have hstation : u.station = .settling := by rw [← hu]; rfl
  rw [exec_stepDue_run s r hr (.inl hs), hstep, hentered]
  refine ⟨fun hopen => ?_, fun hclosed hw => ?_⟩
  · have htest : u.settleTest = u := if_neg fun hc => by simp [herror, hopen] at hc
    rw [htest, s.enterIdle_other u (by simp [hstation])]
  · have htest : u.settleTest = u.endRecord .done := if_pos ⟨hstation, herror.trans hclosed⟩
    rw [htest, ← hu, State.endRecord_some _ .done { a with disposition := none, reserved := false } rfl,
      s.enterIdle_entered _ rfl (by simp [hs])]
    exact congrArg Host.Outcome.next (State.dispatch_noWork_idle _ hw rfl)

/-- Settles O51: the edges of the change first, then what the position they reach brings. -/
theorem encoderChangeIsCountedByItsMode : Obligations.EncoderChangeIsCountedByItsMode := by
  refine ⟨fun s old a b hload hold hdrive hne => ?_, fun s a r n hs ha hk hmode hr hcount => ?_⟩
  · intro drive edge sensed taken counted size checked crosses faulted
    have hcounted : (s.takePair a b).encoder.after s.cfg.divisor sensed = counted :=
      Encoder.after_eq taken s.cfg.divisor sensed
    have hcrosses : (s.takePair a b).crosses ((s.takePair a b).encoder.after s.cfg.divisor sensed) ↔ crosses := by
      rw [hcounted]
      exact State.crosses_iff (s.takePair a b) counted
    refine ⟨fun h => ?_, fun h1 h2 => ?_⟩
    · have hexec : exec (.encoderChange a b) s =
          .next (s.enterIdle ((s.takePair a b).countEdges sensed.toList)) :=
        exec_encoderChange_edges s old a b edge hload hold hdrive hne h (singleEdges_eq _ old a b hne h)
      obtain ⟨hwithin, hcross, hsettling⟩ := exec_encoderChange_single s a b sensed hexec
      rw [hcounted] at hwithin hcross hsettling
      rw [hcounted] at hcrosses
      refine ⟨fun hs hno => hwithin hs (hno.imp_left (mt hcrosses.1)), fun hrec hs hc => ?_,
        fun x m hs hx hm hno => ?_⟩
      · have hpair : counted.pair = some (a, b) := by
          rw [← hcounted, Encoder.after_pair]
          rfl
        obtain ⟨t, ht, hst, hact, hhomed, hlatch, hstk, hgen, hpos, hrem, hp, hlog, hgroups, hlast⟩ :=
          hcross hrec hs (hcrosses.2 hc)
        exact ⟨t, ht, hst, hact, hhomed, hlatch, hstk, hgen, hpos, hrem, hp.trans hpair, hlog, hgroups, hlast⟩
      · obtain ⟨hkept, hdone⟩ := hsettling x hs hx (mt hcrosses.1 hno)
        exact ⟨fun hp => hkept (hp.imp_right (State.errorSettled_eq_false _).2),
          fun hp hz hw => hdone hp ((State.errorSettled_iff _).2 hz) hw⟩
    · obtain ⟨hoff, hquad, hupDown⟩ := exec_encoderChange_double s old a b hload hold hdrive h1 h2
      refine ⟨hoff, fun hm => ⟨(hquad hm).1, fun hrec hs => ?_⟩, fun hm hw hs _ hr => hupDown hm hw hs hr⟩
      obtain ⟨t, ht, hfaulted⟩ := (hquad hm).2 hrec hs
      exact ⟨t, ht, hfaulted⟩
  · intro moved size
    have hmoved : (s.gen.emitted r).position = moved := stepFrom_eq _ _
    have hceased : (s.gen.emitted r).ceased = { s.gen.ceased with position := moved } := by
      rw [← hmoved]
      rfl
    refine ⟨fun hw hbefore hafter => ?_, fun hw hn hb hf hsettle => ⟨fun hopen => ?_, fun hclosed hwork => ?_⟩⟩
    · have hwithin : s.errorBeyond = false := by
        rw [← Bool.not_eq_true, s.errorBeyond_iff]
        exact fun h => absurd h.2 (Nat.not_lt.2 hbefore)
      have hbeyond : (s.setGen (s.gen.emitted r)).errorBeyond = true := by
        rw [State.errorBeyond_iff, State.setGen_gen, hmoved]
        exact ⟨⟨hmode, hw⟩, hafter⟩
      obtain ⟨t, hexec, hseq, hgen, hstack, hfaults, hgroups⟩ :=
        exec_stepDue_crosses s a r hs ha hk hr hwithin hbeyond
      exact ⟨t, hexec, hseq, hgen.trans hceased, hstack, by rw [hfaults, hmoved], hgroups⟩
    · have hbeyond : (s.setGen (s.gen.emitted r)).errorSettled = false := by
        rw [State.errorSettled_eq_false, State.setGen_gen, hmoved]
        exact hopen
      rw [(exec_stepDue_settles s a r n hs ha hk hmode hr hcount hw hn hb hf hsettle).1 hbeyond, hceased]
    · have hwithin : (s.setGen (s.gen.emitted r)).errorSettled = true := by
        rw [State.errorSettled_iff, State.setGen_gen, hmoved]
        exact hclosed
      rw [(exec_stepDue_settles s a r n hs ha hk hmode hr hcount hw hn hb hf hsettle).2 hwithin hwork,
        State.stilled, State.setGen_gen, hceased]
      rfl

end Sys2Proof.Machine

/-! ## Proofs: FLUSH (O31) -/

namespace Sys2Proof.Machine

/-! ### The scope of a body (R19, R20) -/

theorem flushScopeOf_all (g : Byte) : flushScopeOf [1, g] = some .all := rfl

theorem flushScopeOf_stack (g : Byte) : flushScopeOf [3, g] = some .stack := rfl

theorem flushScopeOf_group (g : Byte) (h : g.toNat ≤ 15) :
    flushScopeOf [2, g] = some (.group g.toNat) := if_pos h

theorem flushScopeOf_groupAbove (g : Byte) (h : 15 < g.toNat) : flushScopeOf [2, g] = none :=
  if_neg (Nat.not_le.2 h)

theorem flushScopeOf_unknown (scope g : Byte) (h1 : scope ≠ 1) (h2 : scope ≠ 2) (h3 : scope ≠ 3) :
    flushScopeOf [scope, g] = none := by
  have hne : ∀ k : Byte, scope ≠ k → scope.toNat ≠ k.toNat := fun k hk he => hk (BitVec.eq_of_toNat_eq he)
  rw [flushScopeOf, if_neg (by simp)]
  split
  case h_1 h => exact absurd h (hne 1 h1)
  case h_2 h => exact absurd h (hne 2 h2)
  case h_3 h => exact absurd h (hne 3 h3)
  case h_4 => rfl

/-! ### What a scope leaves (R20, R21) -/

/-- A FLUSH leaves an entry of the queue that is not armed. -/
def FlushScope.keepsEntry (scope : FlushScope) (e : QueueEntry) : Bool := e.bound || !scope.takesEntry e.group

/-- A FLUSH leaves a residual that is not armed. -/
def FlushScope.keepsResidual (scope : FlushScope) (r : Residual) : Bool := !scope.takesResidual r.group

theorem FlushScope.keepsEntry_all : FlushScope.all.keepsEntry = fun e => e.bound := by
  funext e
  simp [FlushScope.keepsEntry, FlushScope.takesEntry]

theorem FlushScope.keepsEntry_group (g : Nat) :
    (FlushScope.group g).keepsEntry = fun e => e.bound || decide (e.group ≠ g) := by
  funext e
  simp [FlushScope.keepsEntry, FlushScope.takesEntry, eq_comm]

theorem FlushScope.keepsEntry_stack : FlushScope.stack.keepsEntry = fun _ => true := by
  funext e
  simp [FlushScope.keepsEntry, FlushScope.takesEntry]

theorem FlushScope.keepsResidual_all : FlushScope.all.keepsResidual = fun _ => false := rfl

theorem FlushScope.keepsResidual_group (g : Nat) :
    (FlushScope.group g).keepsResidual = fun r => decide (r.group ≠ g) := by
  funext r
  simp [FlushScope.keepsResidual, FlushScope.takesResidual, eq_comm]

theorem FlushScope.keepsResidual_stack : FlushScope.stack.keepsResidual = fun _ => false := rfl

theorem keepHead_false {α : Type} (p : α → Bool) (l : List α) : keepHead false p l = l.filter p := by
  cases l <;> rfl

section

variable (s : State)

/-- The state with what a FLUSH leaves of queue and stack. -/
def State.leaving (es : List QueueEntry) (rs : List Residual) (overflow : Bool) : State :=
  { s with
    queue := { s.queue with entries := es }
    stack := { s.stack with residuals := rs, overflow := overflow } }

/-- A FLUSH while dispatch does not run. -/
theorem State.doFlush_busy (scope : FlushScope) (h : s.busy) : s.doFlush scope =
    s.leaving (s.flushedEntries scope) (s.flushedResiduals scope)
      (s.stack.overflow && !scope.clearsOverflow) := by
  have hkept := State.dispatch_busy
    (s.leaving (s.flushedEntries scope) (s.flushedResiduals scope)
      (s.stack.overflow && !scope.clearsOverflow)) h
  exact (congrArg _ hkept).trans (ite_self _)

/-- No entry is armed outside ARMED. -/
theorem State.flushed_of_notArmed (scope : FlushScope) (h : s.station ≠ .armed) :
    s.flushedEntries scope = s.queue.entries.filter scope.keepsEntry ∧
    s.flushedResiduals scope = s.stack.residuals.filter scope.keepsResidual := by
  have hat : s.armedAt = none := if_neg h
  rw [State.flushedEntries, State.flushedResiduals, hat]
  exact ⟨keepHead_false _ _, keepHead_false _ _⟩

theorem State.flushed_of_armedHead (scope : FlushScope) (e : QueueEntry) (es : List QueueEntry)
    (h : s.station = .armed) (he : s.queue.entries = e :: es)
    (hc : s.candidate = some (.queueHead, .segment e)) :
    s.flushedEntries scope = e :: es.filter scope.keepsEntry ∧
    s.flushedResiduals scope = s.stack.residuals.filter scope.keepsResidual := by
  have hat : s.armedAt = some .queueHead := by rw [State.armedAt, if_pos h, hc]; rfl
  rw [State.flushedEntries, State.flushedResiduals, hat, he]
  exact ⟨rfl, keepHead_false _ _⟩

theorem State.flushed_of_armedTop (scope : FlushScope) (r : Residual) (rs : List Residual)
    (h : s.station = .armed) (hr : s.stack.residuals = r :: rs)
    (hc : s.candidate = some (.stackTop, .residual r)) :
    s.flushedEntries scope = s.queue.entries.filter scope.keepsEntry ∧
    s.flushedResiduals scope = r :: rs.filter scope.keepsResidual := by
  have hat : s.armedAt = some .stackTop := by rw [State.armedAt, if_pos h, hc]; rfl
  rw [State.flushedEntries, State.flushedResiduals, hat, hr]
  exact ⟨keepHead_false _ _, rfl⟩

/-- In IDLE and HELD no entry is BOUND: an entry is bound to a running record only (R41). -/
theorem State.unbound_of_waiting (hs : s.station = .idle ∨ s.station = .held) (h : s.chainInv) :
    s.queue.entries.filter (fun e => e.bound) = [] := by
  obtain ⟨⟨hrecord, -⟩, ⟨htail, hhead⟩, -⟩ := h
  have hnone : s.seq.active = none := by
    have hworking : s.station.working = false := by rcases hs with hs | hs <;> rw [hs] <;> rfl
    rw [State.recordOk, hworking] at hrecord
    simpa using hrecord
  cases he : s.queue.entries with
  | nil => rfl
  | cons e es =>
    rw [he] at htail hhead
    have hfirst : e.bound = false := by simpa [hnone] using hhead
    rw [List.filter_cons_of_neg (by simp [hfirst])]
    exact List.filter_eq_nil_iff.2 fun x hx => by simp [htail x hx]

/-- A FLUSH of ALL in IDLE or HELD leaves nothing to dispatch (R22, R28, R29). -/
theorem State.doFlush_waiting (hs : s.station = .idle ∨ s.station = .held) (hw : ¬s.noWork) (h : s.chainInv) :
    s.doFlush .all = (s.leaving [] [] false).setStation .idle := by
  have harmed : s.station ≠ .armed := by rcases hs with hs | hs <;> simp [hs]
  obtain ⟨hentries, hresiduals⟩ := s.flushed_of_notArmed .all harmed
  rw [FlushScope.keepsEntry_all, s.unbound_of_waiting hs h] at hentries
  rw [FlushScope.keepsResidual_all, List.filter_false] at hresiduals
  have hdispatch := State.dispatch_noWork (s.leaving [] [] false) ⟨rfl, rfl⟩ hs
  rw [State.doFlush, hentries, hresiduals, if_neg fun hsame => hw ⟨hsame.1.symm, hsame.2.symm⟩]
  have hoverflow : (s.stack.overflow && !FlushScope.all.clearsOverflow) = false := Bool.and_false _
  rw [hoverflow]
  exact hdispatch

end

section

variable (s : State) (sender : Nat) (dest g : Byte) (haddressed : s.addressed dest)

include haddressed

theorem exec_flush_of_scope (body : List Byte) (scope : FlushScope) (h : flushScopeOf body = some scope) :
    exec (.flush sender dest body) s = .next (s.doFlush scope) := by
  rw [exec_flush_of_addressed s sender dest body haddressed, State.takeFlush, h]

theorem exec_flush_refused (body : List Byte) (h : flushScopeOf body = none) :
    exec (.flush sender dest body) s = .next { s with queue := s.queue.refused .flush none .badField } := by
  rw [exec_flush_of_addressed s sender dest body haddressed, State.takeFlush, h]
  rfl

/-- The three scopes of a FLUSH while dispatch does not run, by what it leaves of each list for what the
scope keeps. -/
theorem exec_flush_busy (es : (QueueEntry → Bool) → List QueueEntry) (rs : (Residual → Bool) → List Residual)
    (hs : s.busy) (kept : List Residual) (hes : es (fun _ => true) = s.queue.entries)
    (hrs : rs (fun _ => false) = kept)
    (h : ∀ scope, s.flushedEntries scope = es scope.keepsEntry ∧
      s.flushedResiduals scope = rs scope.keepsResidual) :
    exec (.flush sender dest [1, g]) s = .next (s.leaving (es fun e => e.bound) kept false) ∧
    (g.toNat ≤ 15 → exec (.flush sender dest [2, g]) s =
      .next (s.leaving (es fun e => e.bound || decide (e.group ≠ g.toNat))
        (rs fun r => decide (r.group ≠ g.toNat)) s.stack.overflow)) ∧
    exec (.flush sender dest [3, g]) s = .next (s.leaving s.queue.entries kept false) := by
  have hscope : ∀ body scope, flushScopeOf body = some scope → exec (.flush sender dest body) s =
      .next (s.leaving (es scope.keepsEntry) (rs scope.keepsResidual)
        (s.stack.overflow && !scope.clearsOverflow)) := by
    intro body scope hbody
    rw [exec_flush_of_scope s sender dest haddressed body scope hbody, s.doFlush_busy scope hs,
      (h scope).1, (h scope).2]
  refine ⟨?_, fun hg => ?_, ?_⟩
  · rw [hscope _ _ (flushScopeOf_all g), FlushScope.keepsEntry_all, FlushScope.keepsResidual_all, hrs,
      FlushScope.clearsOverflow, Bool.not_true, Bool.and_false]
  · rw [hscope _ _ (flushScopeOf_group g hg), FlushScope.keepsEntry_group, FlushScope.keepsResidual_group,
      FlushScope.clearsOverflow, Bool.not_false, Bool.and_true]
  · rw [hscope _ _ (flushScopeOf_stack g), FlushScope.keepsEntry_stack, FlushScope.keepsResidual_stack, hes,
      hrs, FlushScope.clearsOverflow, Bool.not_true, Bool.and_false]

end

/-- Settles O31: what each scope leaves, by where the armed entry stands. -/
theorem flushRemovesItsScope : Obligations.FlushRemovesItsScope := by
  intro s sender dest g haddressed inGroup others
  refine ⟨fun scope h1 h2 h3 => ?_, fun hg => ?_, fun hs harmed => ?_, fun hs hw hchain => ?_,
    fun e es hs he hc => ?_, fun r rs hs hr hc => ?_⟩
  · exact exec_flush_refused s sender dest haddressed _ (flushScopeOf_unknown scope g h1 h2 h3)
  · exact exec_flush_refused s sender dest haddressed _ (flushScopeOf_groupAbove g hg)
  · exact exec_flush_busy s sender dest g haddressed (fun p => s.queue.entries.filter p)
      (fun p => s.stack.residuals.filter p) hs [] (List.filter_true _) (List.filter_false _)
      fun scope => s.flushed_of_notArmed scope harmed
  · rw [exec_flush_of_scope s sender dest haddressed _ _ (flushScopeOf_all g), s.doFlush_waiting hs hw hchain]
    rfl
  · have hcandidate := s.candidate_queueHead e es he hc.symm
    exact exec_flush_busy s sender dest g haddressed (fun p => e :: es.filter p)
      (fun p => s.stack.residuals.filter p) (by simp [State.busy, hs]) []
      (by rw [List.filter_true, he]) (List.filter_false _)
      fun scope => s.flushed_of_armedHead scope e es hs he hcandidate
  · have hcandidate := s.candidate_stackTop r rs hr fun e es he => hc e (he ▸ List.mem_cons_self)
    exact exec_flush_busy s sender dest g haddressed (fun p => s.queue.entries.filter p)
      (fun p => r :: rs.filter p) (by simp [State.busy, hs]) [r]
      (List.filter_true _) (by rw [List.filter_false])
      fun scope => s.flushed_of_armedTop scope r rs hs hr hcandidate

end Sys2Proof.Machine

/-! ## Proofs: RELEASE, and a group that becomes CLEAR (O36) -/

namespace Sys2Proof.Machine

/-! ### Re-arming in place (R105) -/

section

variable (s : State) (b : BarrierRec)

/-- The barrier record of a re-arming, before its members are read (R105). -/
def State.rearmed : BarrierRec :=
  { b with
    epoch := (s.group b.group).epoch, since := s.link.cycle, start := none, waitCount := 0
    confirmed := b.mask &&& ~~~(1#32 <<< s.own) }

theorem State.otherMembers_of_alone (h : b.mask = 1#32 <<< s.own) : s.otherMembers b = [] := by
  refine List.eq_nil_iff_forall_not_mem.2 fun m hmem => ?_
  obtain ⟨hm, hother, hbit⟩ := (s.mem_otherMembers b m).1 hmem
  rw [h, getLsbD_address _ _ hm, decide_eq_true_eq] at hbit
  exact hother hbit

/-- The station is the barrier's only member: S at once. -/
theorem State.rearmForEpoch_alone (hp : b.phase = .armed) (hmask : b.mask = 1#32 <<< s.own)
    (hlead : 0 < s.cfg.lead) : s.rearmForEpoch b = s.setBarrier (some { s.rearmed b with
      start := some (s.link.cycle + BitVec.ofNat 16 s.cfg.lead) }) := by
  have hage : age s.link.cycle s.link.cycle = 0 := by simp [age, dist16]
  exact State.readMembers_alone (s.setBarrier (some (s.rearmed b))) (s.rearmed b) rfl hp rfl
    (State.otherMembers_of_alone _ _ hmask) (hage.trans_lt hlead)

/-- No other member is heard of: S stays absent. -/
theorem State.rearmForEpoch_waits (hp : b.phase = .armed)
    (hsome : ∃ m, m < 32 ∧ m ≠ s.own ∧ b.mask.getLsbD m = true)
    (hunknown : ∀ m, m < 32 → m ≠ s.own → b.mask.getLsbD m = true → (s.peer m).presence = .unknown) :
    s.rearmForEpoch b = s.setBarrier (some (s.rearmed b)) := by
  obtain ⟨m, hm⟩ := hsome
  refine State.readMembers_notReady (s.setBarrier (some (s.rearmed b))) (s.rearmed b) rfl hp rfl
    (List.ne_nil_of_mem ((State.mem_otherMembers _ _ m).2 hm)) fun x hmem => ?_
  obtain ⟨hx, hother, hbit⟩ := (State.mem_otherMembers _ _ x).1 hmem
  have hpresence : (s.peer x).presence = .unknown := hunknown x hx hother hbit
  exact State.judgeMember_absent _ _ x (hpresence.trans_ne (by decide))

end

/-! ### A group that becomes CLEAR (R124) -/

theorem State.groupBecameClear_busy (s : State) (g : Nat) (h : s.busy) (harmed : s.station ≠ .armed) :
    s.groupBecameClear g = s := by
  unfold State.groupBecameClear
  obtain ⟨hidle, hheld⟩ := h
  cases hs : s.station with
  | idle => exact absurd hs hidle
  | held => exact absurd hs hheld
  | armed => exact absurd hs harmed
  | running => rfl
  | stopping => rfl
  | settling => rfl
  | faulted => rfl
  | offline => rfl

theorem State.groupBecameClear_armed (s : State) (g : Nat) (b : BarrierRec) (hs : s.station = .armed)
    (hb : s.barrier = some b) : s.groupBecameClear g =
      if b.group = g ∧ b.epoch ≠ (s.group g).epoch then s.rearmForEpoch b else s := by
  rw [State.groupBecameClear, hs, hb]

/-- The DWELL at the queue head that its group held starts (R30, R33, R124). -/
theorem State.dispatch_queuedDwell (s : State) (e : QueueEntry) (es : List QueueEntry) (n : Nat)
    (hs : s.station = .idle ∨ s.station = .held) (hp : s.seq.paused = false) (hd : s.drive.clear = .none)
    (hstack : s.stack.residuals = []) (he : s.queue.entries = e :: es) (hbody : e.body = .dwell n)
    (hbarrier : e.barrier = none) (hclear : s.groupHalted e.group = false) :
    s.dispatch = (s.takeCandidate .queueHead).dwellBegun (.segment e) n := by
  have hcandidate := s.candidate_queueHead e es he (.inr hstack)
  have hgate : s.gate (.segment e) = .start := by
    rw [s.gate_of_open (.segment e) (.inl hp) hclear hd, show (Work.segment e).barrier = none from hbarrier]
    rfl
  have hstart := s.startCandidate_dwell .queueHead e n hbody
  rw [s.dispatch_starts hs hcandidate hgate (by rw [hstart]; simp [State.dwellBegun, State.station]), hstart]

theorem State.takeQueueHead_eq (s : State) (e : QueueEntry) (es : List QueueEntry)
    (he : s.queue.entries = e :: es) :
    s.takeCandidate .queueHead = s.setQueue { s.queue with entries := es } := by
  rw [State.takeCandidate, he]
  rfl

/-! ### RELEASE (R121) -/

/-- A write that does not move the state of its group is told to nobody (R112). -/
theorem State.tellChanges_setGroup_unmoved (s : State) (g : Nat) (x : GroupEntry)
    (hm : (s.group g).moved x = false) (h1 : 1 ≤ g) (hl : g ≤ s.groups.length) :
    s.tellChanges (s.setGroup g x) = s.setGroup g x := by
  have hnone : groupNumbers.filter (fun h => (s.group h).moved ((s.setGroup g x).group h)) = [] := by
    refine List.filter_eq_nil_iff.2 fun h _ => ?_
    rw [s.group_setGroup g h x (by omega) hl]
    by_cases heq : h = g
    · simp [heq, hm]
    · simp [if_neg heq, GroupEntry.moved_self]
  rw [State.tellChanges, hnone, List.foldl_nil]

/-- The entry that a RELEASE writes (R121). -/
def GroupEntry.released (e : Epoch) (sender : Nat) (n : Cycle) : GroupEntry :=
  ⟨e, .clear, true, .released, some sender, n⟩

/-- A RELEASE is taken by an unsynchronised entry and by one that stands before it (R110, R121). -/
theorem laterState_clear_iff (e : Epoch) (x : GroupEntry) : laterState e .clear x.epoch x.condition = true ↔
    ((e - x.epoch).toNat = 0 ∧ x.condition = .halted) ∨
      (1 ≤ (e - x.epoch).toNat ∧ (e - x.epoch).toNat ≤ 127) := by
  have hsame : e = x.epoch ↔ (e - x.epoch).toNat = 0 :=
    ⟨fun h => by simp [h], fun h => by bv_omega⟩
  have hclear : decide (Condition.clear = Condition.clear) = true := rfl
  rw [laterState, Bool.or_eq_true, later8_iff, hclear, Bool.and_true, Bool.and_eq_true, decide_eq_true_eq,
    decide_eq_true_eq, hsame, or_comm]

theorem GroupEntry.release_eq (x : GroupEntry) (e : Epoch) (sender : Nat) (n : Cycle) :
    x.release e sender n =
      if x.synchronised = false ∨ ((e - x.epoch).toNat = 0 ∧ x.condition = .halted) ∨
        (1 ≤ (e - x.epoch).toNat ∧ (e - x.epoch).toNat ≤ 127) then .released e sender n else x := by
  have hiff : (!x.synchronised || laterState e .clear x.epoch x.condition) = true ↔
      x.synchronised = false ∨ ((e - x.epoch).toNat = 0 ∧ x.condition = .halted) ∨
        (1 ≤ (e - x.epoch).toNat ∧ (e - x.epoch).toNat ≤ 127) := by
    rw [Bool.or_eq_true, Bool.not_eq_true', laterState_clear_iff]
  rw [GroupEntry.release]
  simp only [hiff]
  rfl

section

variable (s : State) (sender : Nat) (dest g e : Byte) (ha : s.addressed dest) (h1 : 1 ≤ g.toNat)
  (h15 : g.toNat ≤ 15) (hl : s.groups.length = 15)

/-- The state with the entry of a RELEASE written. -/
def State.withRelease : State :=
  { s with groups := s.groups.set (g.toNat - 1) (.released e sender s.link.cycle) }

include h1 h15 hl in
theorem State.withRelease_group :
    (s.withRelease sender g e).group g.toNat = .released e sender s.link.cycle := by
  have hwritten := s.group_setGroup g.toNat g.toNat (.released e sender s.link.cycle) (by omega) (by omega)
  rw [if_pos rfl, State.setGroup, if_neg (by omega)] at hwritten
  exact hwritten

theorem exec_release_refused (ha : s.addressed dest) (hg : g = 0 ∨ 15 < g.toNat) :
    exec (.release sender dest [g, e]) s =
      .next { s with queue := s.queue.refused .release none .badField } := by
  have hrefused : s.takeRelease sender [g, e] = s.refuse .release none .badField := by
    refine if_neg fun ⟨_, hok⟩ => ?_
    obtain ⟨hlow, hhigh⟩ := (groupOk_iff g).1 hok
    rcases hg with rfl | hg
    · exact absurd hlow (by decide)
    · omega
  rw [exec_release_of_addressed s sender dest _ ha, hrefused, s.refuse_eq]

include ha h1 h15

theorem exec_release_of_group : exec (.release sender dest [g, e]) s = .next (s.releaseGroup g.toNat e sender) := by
  have htaken : s.takeRelease sender [g, e] = s.releaseGroup g.toNat e sender :=
    if_pos ⟨rfl, (groupOk_iff g).2 ⟨h1, h15⟩⟩
  rw [exec_release_of_addressed s sender dest _ ha, htaken]

theorem exec_release_ignored (h : (s.group g.toNat).release e sender s.link.cycle = s.group g.toNat) :
    exec (.release sender dest [g, e]) s = .next s := by
  rw [exec_release_of_group s sender dest g e ha h1 h15, State.releaseGroup, h, s.setGroup_group,
    s.tellChanges_self]

include hl

/-- A RELEASE that is taken is written, and told when it moves the group state (R112, R121). -/
theorem exec_release_taken
    (h : (s.group g.toNat).release e sender s.link.cycle = .released e sender s.link.cycle) :
    exec (.release sender dest [g, e]) s =
      .next (if (s.group g.toNat).moved (.released e sender s.link.cycle) = true
        then (s.withRelease sender g e).groupBecameClear g.toNat else s.withRelease sender g e) := by
  have hset : s.setGroup g.toNat (.released e sender s.link.cycle) = s.withRelease sender g e :=
    if_neg (by omega)
  rw [exec_release_of_group s sender dest g e ha h1 h15, State.releaseGroup, h]
  by_cases hm : (s.group g.toNat).moved (.released e sender s.link.cycle) = true
  · rw [if_pos hm, s.tellChanges_setGroup g.toNat _ h1 h15 hl hm, hset, State.groupChanged,
      State.withRelease_group s sender g e h1 h15 hl]
    rfl
  · rw [if_neg hm, s.tellChanges_setGroup_unmoved g.toNat _ (Bool.not_eq_true _ ▸ hm) h1 (by omega), hset]

end

/-- Settles O36: the entry first, then the station by its state. -/
theorem releaseClearsTheNamedEpoch : Obligations.ReleaseClearsTheNamedEpoch := by
  intro s sender dest g e ha hl x entry d takes
  refine ⟨exec_release_refused s sender dest g e ha, fun h1 h15 => ?_⟩
  have hrelease := GroupEntry.release_eq x e sender s.link.cycle
  have hgroup := State.withRelease_group s sender g e h1 h15 hl
  have hexec : takes → exec (.release sender dest [g, e]) s =
      .next (if x.moved (.released e sender s.link.cycle) = true
        then (s.withRelease sender g e).groupBecameClear g.toNat else s.withRelease sender g e) := fun ht =>
    exec_release_taken s sender dest g e ha h1 h15 hl (hrelease.trans (if_pos ht))
  refine ⟨fun ht => ?_, fun ht hbusy harmed => ?_, fun q qs n ht hx hs hp hd hstack hq hbody hbarrier hqg => ?_,
    fun b ht hs hb hphase => ?_⟩
  · exact exec_release_ignored s sender dest g e ha h1 h15 (hrelease.trans (if_neg ht))
  · rw [hexec ht, State.groupBecameClear_busy (s.withRelease sender g e) _ hbusy harmed, ite_self]
    rfl
  · have hmoved : x.moved (.released e sender s.link.cycle) = true := by
      simp [GroupEntry.moved, GroupEntry.released, hx]
    have hclear : (s.withRelease sender g e).groupHalted q.group = false := by
      rw [hqg, State.groupHalted, hgroup]
      simp [GroupEntry.released]
    have hdispatch := State.dispatch_queuedDwell (s.withRelease sender g e) q qs n (.inr hs) hp hd hstack hq
      hbody hbarrier hclear
    have htold : (s.withRelease sender g e).groupBecameClear g.toNat = (s.withRelease sender g e).dispatch := by
      rw [State.groupBecameClear, show (s.withRelease sender g e).station = .held from hs]
    rw [hexec ht, if_pos hmoved, htold, hdispatch, State.takeQueueHead_eq (s.withRelease sender g e) q qs hq]
    rfl
  · intro told again
    have htold : (s.withRelease sender g e).groupBecameClear g.toNat =
        if b.group = g.toNat ∧ b.epoch ≠ e then (s.withRelease sender g e).rearmForEpoch b
          else s.withRelease sender g e := by
      rw [State.groupBecameClear_armed (s.withRelease sender g e) g.toNat b hs hb, hgroup]
      rfl
    refine ⟨fun hother => ?_, fun hbg hbe hbx _ => ?_⟩
    · have hunread : ¬ (b.group = g.toNat ∧ b.epoch ≠ e) := fun h => hother.elim (fun hn => hn h.1) h.2
      rw [hexec ht, htold, if_neg hunread, ite_self]
      rfl
    · have hmoved : x.moved (.released e sender s.link.cycle) = true := by
        simp [GroupEntry.moved, GroupEntry.released, ← hbx, hbe]
      have hepoch : ((s.withRelease sender g e).group b.group).epoch = e := by rw [hbg, hgroup]; rfl
      have hagain : (s.withRelease sender g e).rearmed b = again :=
        congrArg (fun n : Epoch => { again with epoch := n }) hepoch
      rw [hexec ht, if_pos hmoved, htold, if_pos ⟨hbg, hbe⟩]
      refine ⟨fun hmask hlead => ?_, fun hsome hunknown => ?_⟩
      · rw [State.rearmForEpoch_alone (s.withRelease sender g e) b hphase hmask hlead, hagain]
        rfl
      · rw [State.rearmForEpoch_waits (s.withRelease sender g e) b hphase hsome hunknown, hagain]
        rfl

end Sys2Proof.Machine

/-! ## Proofs: a peer's STATUS and its group vector (O37) -/

namespace Sys2Proof.Machine

/-! ### Telling several groups (R112, R119) -/

theorem mem_groupNumbers (g : Nat) : g ∈ groupNumbers ↔ 1 ≤ g ∧ g ≤ 15 := by
  simp only [groupNumbers, List.mem_map, List.mem_range]
  constructor
  · rintro ⟨i, hi, rfl⟩
    omega
  · exact fun h => ⟨g - 1, by omega, by omega⟩

/-- A fold whose steps leave a state, or lead to one state that every later step leaves. -/
theorem foldl_settles {α β : Type} (f : α → β → α) (l : List β) (s t : α) (b : β) (hb : b ∈ l)
    (hat : f s b = t) (hstep : ∀ x ∈ l, f s x = s ∨ f s x = t) (hafter : ∀ x ∈ l, f t x = t) :
    l.foldl f s = t := by
  have hstays : ∀ m : List β, (∀ x ∈ m, f t x = t) → m.foldl f t = t := by
    intro m hm
    induction m with
    | nil => rfl
    | cons x xs ih =>
      rw [List.foldl_cons, hm x List.mem_cons_self, ih fun y hy => hm y (List.mem_cons_of_mem _ hy)]
  induction l with
  | nil => cases hb
  | cons x xs ih =>
    have hrest := hstays xs fun y hy => hafter y (List.mem_cons_of_mem _ hy)
    rw [List.foldl_cons]
    rcases hstep x List.mem_cons_self with hsame | hmoved
    · rw [hsame]
      rcases List.mem_cons.1 hb with rfl | hlater
      · rw [← hsame, hat, hrest]
      · exact ih hlater (fun y hy => hstep y (List.mem_cons_of_mem _ hy))
          fun y hy => hafter y (List.mem_cons_of_mem _ hy)
    · rw [hmoved, hrest]

/-- Changes that do nothing to the station. -/
theorem State.tellChanges_quiet (s u : State) (h : ∀ g, 1 ≤ g → u.groupChanged g = u) :
    s.tellChanges u = u := by
  have hstays : ∀ l : List Nat, (∀ g ∈ l, 1 ≤ g) → l.foldl State.groupChanged u = u := by
    intro l hl
    induction l with
    | nil => rfl
    | cons g gs ih =>
      rw [List.foldl_cons, h g (hl g List.mem_cons_self), ih fun x hx => hl x (List.mem_cons_of_mem _ hx)]
  exact hstays _ fun g hg => ((mem_groupNumbers g).1 (List.mem_of_mem_filter hg)).1

/-- Changes of which one brings the station to a state that all others leave. -/
theorem State.tellChanges_settles (s u t : State) (g : Nat) (h1 : 1 ≤ g) (h15 : g ≤ 15)
    (hm : (s.group g).moved (u.group g) = true) (hat : u.groupChanged g = t)
    (hstep : ∀ h, 1 ≤ h → u.groupChanged h = u ∨ u.groupChanged h = t)
    (hafter : ∀ h, 1 ≤ h → t.groupChanged h = t) : s.tellChanges u = t := by
  have hlow : ∀ h ∈ groupNumbers.filter (fun h => (s.group h).moved (u.group h)), 1 ≤ h := fun h hh =>
    ((mem_groupNumbers h).1 (List.mem_of_mem_filter hh)).1
  exact foldl_settles _ _ u t g (List.mem_filter.2 ⟨(mem_groupNumbers g).2 ⟨h1, h15⟩, hm⟩) hat
    (fun h hh => hstep h (hlow h hh)) fun h hh => hafter h (hlow h hh)

section

variable (s : State) (g : Nat)

/-! ### One told group by the station state (R123, R124) -/

theorem State.groupHalted_iff (h1 : 1 ≤ g) : s.groupHalted g = true ↔ (s.group g).condition = .halted := by
  have hne : g ≠ 0 := by omega
  simp [State.groupHalted, hne]

theorem State.groupChanged_eq (h1 : 1 ≤ g) : s.groupChanged g =
    if s.groupHalted g = true then s.groupBecameHalted g else s.groupBecameClear g := by
  have hiff := s.groupHalted_iff g h1
  rw [State.groupChanged]
  cases hc : (s.group g).condition with
  | halted => rw [if_pos (hiff.2 hc)]
  | clear => rw [if_neg fun h => Condition.noConfusion (hc.symm.trans (hiff.1 h))]

/-- A station that has no work to hold or to start goes on. -/
theorem State.groupChanged_inert (h : s.station = .offline ∨ s.station = .faulted ∨ s.station = .stopping ∨
    s.station = .settling) : s.groupChanged g = s := by
  have hhalted : s.groupBecameHalted g = s := by
    rcases h with h | h | h | h <;> rw [State.groupBecameHalted, h]
  have hclear : s.groupBecameClear g = s := by
    rcases h with h | h | h | h <;> rw [State.groupBecameClear, h]
  unfold State.groupChanged
  split
  · exact hhalted
  · exact hclear

theorem State.groupChanged_waiting (h : s.station = .idle ∨ s.station = .held) :
    s.groupChanged g = s.dispatch := by
  have hhalted : s.groupBecameHalted g = s.dispatch := by
    rcases h with h | h <;> rw [State.groupBecameHalted, h]
  have hclear : s.groupBecameClear g = s.dispatch := by
    rcases h with h | h <;> rw [State.groupBecameClear, h]
  unfold State.groupChanged
  split
  · exact hhalted
  · exact hclear

/-- A running record is told of its own group's halt only. -/
theorem State.groupChanged_running (a : Active) (hs : s.station = .running) (ha : s.seq.active = some a)
    (h1 : 1 ≤ g) (h : a.work.group = g → s.groupHalted g = false) : s.groupChanged g = s := by
  have hclear : s.groupBecameClear g = s := by rw [State.groupBecameClear, hs]
  rw [s.groupChanged_eq g h1]
  split
  case isTrue hhalted =>
    refine s.groupBecameHalted_of_unaffected g (.inr (.inr (.inr ⟨hs, fun x hx hg => ?_⟩)))
    rw [ha, Option.some.injEq] at hx
    rw [← hx] at hg
    exact Bool.noConfusion ((h hg).symm.trans hhalted)
  case isFalse => exact hclear

/-- An armed station is told of the halt and of a new epoch of its barrier's group only. -/
theorem State.groupChanged_armed (b : BarrierRec) (hs : s.station = .armed) (hb : s.barrier = some b)
    (h1 : 1 ≤ g) (h : b.group = g → s.groupHalted g = false ∧ b.epoch = (s.group g).epoch) :
    s.groupChanged g = s := by
  rw [s.groupChanged_eq g h1]
  split
  case isTrue hhalted =>
    have hother : ¬ s.barrier.any (fun b => decide (b.group = g)) = true := by
      simpa [hb] using fun hg => by simpa [hhalted] using (h hg).1
    rw [State.groupBecameHalted, hs]
    exact if_neg hother
  case isFalse =>
    rw [s.groupBecameClear_armed g b hs hb]
    exact if_neg fun hc => hc.2 (h hc.1).2

end

/-! ### The table and its halts -/

/-- Only the groups of the table can be HALTED (R109). -/
theorem State.inTable_of_halted (s : State) (g : Nat) (hl : s.groups.length = 15)
    (h : s.groupHalted g = true) : 1 ≤ g ∧ g ≤ 15 := by
  have hne : g ≠ 0 := by
    rintro rfl
    exact Bool.noConfusion h
  refine ⟨by omega, ?_⟩
  by_contra hlarge
  have hnone : s.group g = .reset := by
    rw [State.group, if_neg hne, List.getD_eq_default _ _ (by omega)]
  rw [s.groupHalted_iff g (by omega), hnone] at h
  exact Condition.noConfusion h

theorem State.inTable_of_epoch (s t : State) (g : Nat) (hs : s.groups.length = 15) (ht : t.groups.length = 15)
    (h1 : 1 ≤ g) (h : (s.group g).epoch ≠ (t.group g).epoch) : g ≤ 15 := by
  by_contra hlarge
  have hne : g ≠ 0 := by omega
  refine h ?_
  rw [State.group, State.group, if_neg hne, if_neg hne, List.getD_eq_default _ _ (by omega),
    List.getD_eq_default _ _ (by omega)]

/-- A group whose halt has come or gone has moved (R112). -/
theorem State.moved_of_halt (s t : State) (g : Nat) (h1 : 1 ≤ g)
    (h : s.groupHalted g ≠ t.groupHalted g) : (s.group g).moved (t.group g) = true := by
  by_contra hm
  have hsame : (s.group g).condition = (t.group g).condition := by
    simpa [GroupEntry.moved] using (by simpa [GroupEntry.moved] using hm :
      (s.group g).epoch = (t.group g).epoch ∧ (s.group g).condition = (t.group g).condition).2
  exact h (by rw [Bool.eq_iff_iff, s.groupHalted_iff g h1, t.groupHalted_iff g h1, hsame])

theorem GroupEntry.moved_of_epoch (x y : GroupEntry) (h : x.epoch ≠ y.epoch) : x.moved y = true := by
  simp [GroupEntry.moved, h]

/-! ### The heard vector (R110, R111, R119) -/

theorem laterState_iff (e : Epoch) (c : Condition) (x : GroupEntry) :
    laterState e c x.epoch x.condition = true ↔
      ((e - x.epoch).toNat = 0 ∧ c = .clear ∧ x.condition = .halted) ∨
        (1 ≤ (e - x.epoch).toNat ∧ (e - x.epoch).toNat ≤ 127) := by
  have hsame : e = x.epoch ↔ (e - x.epoch).toNat = 0 := ⟨fun h => by simp [h], fun h => by bv_omega⟩
  rw [laterState, Bool.or_eq_true, later8_iff, Bool.and_eq_true, Bool.and_eq_true, decide_eq_true_eq,
    decide_eq_true_eq, decide_eq_true_eq, hsame, or_comm, and_assoc]

theorem GroupEntry.hear_eq (x : GroupEntry) (e : Epoch) (c : Condition) (peer : Nat) (n : Cycle) :
    x.hear e c peer n =
      if x.synchronised = false ∨ ((e - x.epoch).toNat = 0 ∧ c = .clear ∧ x.condition = .halted) ∨
        (1 ≤ (e - x.epoch).toNat ∧ (e - x.epoch).toNat ≤ 127) then ⟨e, c, true, .relayed, some peer, n⟩
      else x := by
  have hiff : (!x.synchronised || laterState e c x.epoch x.condition) = true ↔
      x.synchronised = false ∨ ((e - x.epoch).toNat = 0 ∧ c = .clear ∧ x.condition = .halted) ∨
        (1 ≤ (e - x.epoch).toNat ∧ (e - x.epoch).toNat ≤ 127) := by
    rw [Bool.or_eq_true, Bool.not_eq_true', laterState_iff]
  rw [GroupEntry.hear]
  simp only [hiff]
  rfl

/-- The state once a STATUS of a peer has been written and its vector compared (R119, R177). -/
def State.heardStatus (s : State) (sender : Nat) (p : PeerStatus) : State :=
  (s.setPeer sender { s.peer sender with status := some p }).hearVector p sender

theorem State.heardStatus_eq (s : State) (sender : Nat) (p : PeerStatus) : s.heardStatus sender p = { s with
    peers := s.peers.set sender { s.peer sender with status := some p }
    groups := s.groups.mapIdx (fun i x =>
      if x.synchronised = false ∨
          ((p.epochs.getD i 0 - x.epoch).toNat = 0 ∧
            (if p.haltedMask.getLsbD i = true then Condition.halted else .clear) = .clear ∧
            x.condition = .halted) ∨
          (1 ≤ (p.epochs.getD i 0 - x.epoch).toNat ∧ (p.epochs.getD i 0 - x.epoch).toNat ≤ 127) then
        ⟨p.epochs.getD i 0, if p.haltedMask.getLsbD i = true then .halted else .clear, true, .relayed,
          some sender, s.link.cycle⟩
      else x) } := by
  have htable : s.groups.mapIdx (fun i x => x.hear (heardState p i).1 (heardState p i).2 sender s.link.cycle) =
      s.groups.mapIdx (fun i x =>
        if x.synchronised = false ∨
            ((p.epochs.getD i 0 - x.epoch).toNat = 0 ∧
              (if p.haltedMask.getLsbD i = true then Condition.halted else .clear) = .clear ∧
              x.condition = .halted) ∨
            (1 ≤ (p.epochs.getD i 0 - x.epoch).toNat ∧ (p.epochs.getD i 0 - x.epoch).toNat ≤ 127) then
          ⟨p.epochs.getD i 0, if p.haltedMask.getLsbD i = true then .halted else .clear, true, .relayed,
            some sender, s.link.cycle⟩
        else x) :=
    congrArg (fun f => s.groups.mapIdx f)
      (funext fun i => funext fun x => GroupEntry.hear_eq x _ _ sender s.link.cycle)
  exact congrArg (fun gs => (s.setPeer sender { s.peer sender with status := some p }).setGroups gs) htable

theorem State.heardStatus_length (s : State) (sender : Nat) (p : PeerStatus) :
    (s.heardStatus sender p).groups.length = s.groups.length := List.length_mapIdx

end Sys2Proof.Machine

/-! ## Proofs: the acts of a peer's STATUS on the station (O37) -/

namespace Sys2Proof.Machine

section

variable (s : State) (sender : Nat) (dest : Byte) (body : List Byte) (p : PeerStatus)

theorem exec_status_untaken (h : s.link.state = .offline ∨ body.length ≠ 49 ∨ sender = s.own) :
    exec (.status sender dest body) s = .next s := by
  have hkept : (if s.takesStatus then s.takeStatus sender body else s) = s := by
    rcases h with h | h | h
    · exact if_neg (by simp [State.takesStatus, h])
    · have hnone : s.takeStatus sender body = s := by rw [State.takeStatus, statusOf, if_neg h]
      rw [hnone, ite_self]
    · have hown : s.takeStatus sender body = s := by
        rw [State.takeStatus]
        split
        · rfl
        · exact if_pos h
      rw [hown, ite_self]
  exact congrArg Host.Outcome.next hkept

theorem State.readStatusOf_unread
    (h : ∀ b, s.barrier = some b → b.phase = .armed → b.mask.getLsbD sender = false) :
    s.readStatusOf sender = s := by
  unfold State.readStatusOf
  split
  · rfl
  case h_2 b hb =>
    refine if_neg fun ⟨hphase, hmember, _⟩ => ?_
    exact Bool.noConfusion ((h b hb hphase).symm.trans hmember)

theorem State.followStatus_untracked (q : Position) (h : s.follow.phase = .none ∨ s.follow.leader ≠ sender) :
    s.followStatus sender q = s := by
  refine if_neg fun ⟨htracking, hleader⟩ => h.elim (fun hphase => ?_) fun hne => hne hleader
  simp [State.tracking, hphase] at htracking

/-- A STATUS of a peer whose vector brings the station to a state that neither reads it for a barrier nor
converts it. -/
theorem exec_status_told (t : State) (hl : s.link.state ≠ .offline) (ho : sender ≠ s.own)
    (hbody : statusOf body = some p)
    (htold : (s.setPeer sender { s.peer sender with status := some p }).tellChanges (s.heardStatus sender p) = t)
    (hunread : ∀ b, t.barrier = some b → b.phase = .armed → b.mask.getLsbD sender = false)
    (hfollow : t.station ≠ .running ∨ t.follow.phase = .none ∨ t.follow.leader ≠ sender) :
    exec (.status sender dest body) s = .next t := by
  have htakes : s.takesStatus = true := by
    cases h : s.link.state with
    | offline => exact absurd h hl
    | listening => simp [State.takesStatus, h]
    | joined => simp [State.takesStatus, h]
    | silent => simp [State.takesStatus, h]
  have htaken : s.takeStatus sender body = s.readStatus sender p := by
    rw [State.takeStatus, hbody]
    exact if_neg ho
  have hadopted : (s.setPeer sender { s.peer sender with status := some p }).adopt p sender = t := htold
  have hkept : t.followStatus sender p.position = t := by
    rcases hfollow with hs | hf
    · exact t.followStatus_of_notRunning sender _ hs
    · exact t.followStatus_untracked sender _ hf
  have hexec : exec (.status sender dest body) s = .next (s.takeStatus sender body) :=
    congrArg Host.Outcome.next (if_pos htakes)
  rw [hexec, htaken, State.readStatus, hadopted, t.readStatusOf_unread sender hunread, hkept]

end

section

variable (before heard : State) (hl : before.groups.length = 15) (hlen : heard.groups.length = 15)

include hlen

/-- The running record of a group that becomes HALTED brakes (R123). -/
theorem State.tellChanges_brakes (a : Active) (r : Run) (hs : heard.station = .running)
    (ha : heard.seq.active = some a) (hbefore : before.groupHalted a.work.group = false)
    (hafter : heard.groupHalted a.work.group = true) (hk : a.work.kind ≠ .dwell)
    (hf : heard.follow.phase = .none) (hr : heard.gen.run = some r) (hstand : heard.gen.phase ≠ .standstill)
    (hbrake : heard.gen.phase ≠ .braking) (hfast : r.profile.fs < heard.gen.stopRate r) :
    before.tellChanges heard = { heard with
      queue := heard.queue.unbound
      seq := { heard.seq with
        station := .stopping
        active := some { a with
          disposition := some .halt, faultEnded := false, reserved := false, bound := none } }
      gen := heard.gen.brake } := by
  obtain ⟨h1, h15⟩ := heard.inTable_of_halted _ hlen hafter
  have htold := heard.groupBecameHalted_of_fastRecord a.work.group a hs ha rfl hk (by simp [hf])
    (heard.gen.stopsAtOnce_of_fast r hr hstand hbrake hfast)
  refine State.tellChanges_settles _ _ _ a.work.group h1 h15
    (before.moved_of_halt heard _ h1 (by simp [hbefore, hafter])) ?_ (fun g hg => ?_) fun g _ => ?_
  · rw [heard.groupChanged_eq _ h1, if_pos hafter, htold]
  · by_cases hown : a.work.group = g
    · right
      rw [← hown, heard.groupChanged_eq _ h1, if_pos hafter, htold]
    · exact .inl (heard.groupChanged_running g a hs ha hg fun h => absurd h hown)
  · exact State.groupChanged_inert _ g (.inr (.inr (.inl rfl)))

/-- The arming for a group that becomes HALTED is cancelled, and the candidate held (R30, R103, R123). -/
theorem State.tellChanges_cancels (b : BarrierRec) (hs : heard.station = .armed)
    (hb : heard.barrier = some b) (harmed : heard.armedOk = true) (hp : heard.seq.paused = false)
    (hbefore : before.groupHalted b.group = false) (hafter : heard.groupHalted b.group = true) :
    before.tellChanges heard = { heard with
      barrier := none, seq := { heard.seq with station := .held } } := by
  obtain ⟨h1, h15⟩ := heard.inTable_of_halted _ hlen hafter
  have htold : heard.groupChanged b.group = heard.cancelArming := by
    rw [heard.groupChanged_eq _ h1, if_pos hafter, heard.groupBecameHalted_of_armed b.group b hs hb rfl]
  have hheld : heard.cancelArming.dispatch = heard.cancelArming := by
    cases hc : heard.candidate with
    | none => simp [State.armedOk, hs, hc] at harmed
    | some c =>
      obtain ⟨src, w⟩ := c
      have hgroup : w.group = b.group := by
        simp only [State.armedOk, hs, hc, hb] at harmed
        exact (show w.barrier.isSome = true ∧ w.group = b.group by simpa using harmed).2
      have hcandidate : heard.cancelArming.candidate = some (src, w) := hc
      have hgate : heard.cancelArming.gate w = .held :=
        State.gate_of_halted _ w (.inl hp) (by rw [hgroup]; exact hafter)
      exact State.dispatch_held _ (.inr rfl) hcandidate hgate
  refine State.tellChanges_settles _ _ _ b.group h1 h15
    (before.moved_of_halt heard _ h1 (by simp [hbefore, hafter])) htold (fun g hg => ?_) fun g _ => ?_
  · by_cases hown : b.group = g
    · exact .inr (hown ▸ htold)
    · exact .inl (heard.groupChanged_armed g b hs hb hg fun h => absurd h hown)
  · exact (State.groupChanged_waiting heard.cancelArming g (.inr rfl)).trans hheld

include hl

/-- A station armed for a group whose epoch has advanced re-arms once (R105). -/
theorem State.tellChanges_rearms (b again : BarrierRec) (hs : heard.station = .armed)
    (hb : heard.barrier = some b) (hclear : heard.groupHalted b.group = false) (h1 : 1 ≤ b.group)
    (hbefore : (before.group b.group).epoch = b.epoch) (hafter : (heard.group b.group).epoch ≠ b.epoch)
    (hrearm : heard.rearmForEpoch b = heard.setBarrier (some again)) (hgroup : again.group = b.group)
    (hepoch : again.epoch = (heard.group b.group).epoch) :
    before.tellChanges heard = heard.setBarrier (some again) := by
  have hmoved : (before.group b.group).epoch ≠ (heard.group b.group).epoch := by rw [hbefore]; exact hafter.symm
  have htold : heard.groupChanged b.group = heard.setBarrier (some again) := by
    rw [heard.groupChanged_eq _ h1, if_neg (by simp [hclear]), heard.groupBecameClear_armed b.group b hs hb,
      if_pos ⟨rfl, hafter.symm⟩, hrearm]
  refine State.tellChanges_settles _ _ _ b.group h1 (before.inTable_of_epoch heard _ hl hlen h1 hmoved)
    (GroupEntry.moved_of_epoch _ _ hmoved) htold (fun g hg => ?_) fun g hg => ?_
  · by_cases hown : b.group = g
    · exact .inr (hown ▸ htold)
    · exact .inl (heard.groupChanged_armed g b hs hb hg fun h => absurd h hown)
  · refine State.groupChanged_armed (heard.setBarrier (some again)) g again hs rfl hg fun hown => ?_
    rw [hgroup] at hown
    subst hown
    exact ⟨hclear, hepoch⟩

/-- A waiting station whose candidate's group changes takes the outcome of one dispatch that every later
change leaves (R123, R124). -/
theorem State.tellChanges_dispatches (g : Nat) (t : State)
    (hs : heard.station = .idle ∨ heard.station = .held)
    (hchanged : before.groupHalted g ≠ heard.groupHalted g) (hdispatch : heard.dispatch = t)
    (hafter : ∀ h, 1 ≤ h → t.groupChanged h = t) : before.tellChanges heard = t := by
  have hin : 1 ≤ g ∧ g ≤ 15 := by
    by_cases h : before.groupHalted g = true
    · exact before.inTable_of_halted g hl h
    · exact heard.inTable_of_halted g hlen (by
        rw [Bool.not_eq_true] at h
        rw [h] at hchanged
        exact (Bool.eq_true_of_not_eq_false hchanged.symm))
  have htold : ∀ h, heard.groupChanged h = t := fun h => (heard.groupChanged_waiting h hs).trans hdispatch
  exact State.tellChanges_settles _ _ _ g hin.1 hin.2 (before.moved_of_halt heard g hin.1 hchanged) (htold g)
    (fun h _ => .inr (htold h)) hafter

end

/-- A STATUS writes no presence (R176, R177). -/
theorem State.heardStatus_presence (s : State) (sender m : Nat) (p : PeerStatus) :
    ((s.heardStatus sender p).peer m).presence = (s.peer m).presence := by
  have hpeer : (s.heardStatus sender p).peer m =
      (s.setPeer sender { s.peer sender with status := some p }).peer m := rfl
  rw [hpeer]
  by_cases hm : m < s.peers.length
  · rw [s.peer_setPeer m sender _ hm]
    split
    case isTrue h => rw [h]
    case isFalse => rfl
  · have hout : ∀ l : List PeerEntry, l.length = s.peers.length → l.getD m .reset = .reset := fun l hl =>
      List.getD_eq_default _ _ (by omega)
    have hsame : s.peer m = .reset := hout _ rfl
    rw [State.peer, State.setPeer, State.setPeers_peers, hout _ List.length_set, hsame]

/-- Settles O37: the entry and the table first, then the acts of the changed groups by the station state. -/
theorem statusIsWrittenAndItsVectorAdopted : Obligations.StatusIsWrittenAndItsVectorAdopted := by
  intro s sender dest body taken
  refine ⟨exec_status_untaken s sender dest body, fun p hsizes hl ho hbody => ?_⟩
  intro heard unread untracked begins
  have hheard : s.heardStatus sender p = heard := s.heardStatus_eq sender p
  have hlen : heard.groups.length = 15 := by
    rw [← hheard, s.heardStatus_length, hsizes.2]
  have hpresence : ∀ m, (heard.peer m).presence = (s.peer m).presence := fun m => by
    rw [← hheard, s.heardStatus_presence]
  have hto := fun t : State => hheard ▸ exec_status_told s sender dest body p t hl ho hbody
  refine ⟨fun hs hunread => ?inert, fun a hs ha hunread htrack => ⟨fun hclear => ?_, ?_⟩,
    fun b hs hb hphase harmed hunread => ?_, fun hs hw hb => ?_,
    fun e es hs hstack he hb hp hbefore hafter => ?_,
    fun e es n hs hstack he hb hf hp hd hbody' hbarrier hbefore hafter => ?_⟩
  case inert =>
    have hstation : heard.station = .offline ∨ heard.station = .faulted ∨ heard.station = .stopping ∨
      heard.station = .settling := hs
    refine hto heard (State.tellChanges_quiet _ _ fun g _ => heard.groupChanged_inert g hstation) hunread
      (.inl ?_)
    rcases hstation with h | h | h | h <;> simp [h]
  · exact hto heard (State.tellChanges_quiet _ _ fun g hg =>
      heard.groupChanged_running g a hs ha hg fun h => h ▸ hclear) hunread (.inr htrack)
  · intro r hbefore hafter hk hf hr hstand hbrake hfast
    exact hto _ (State.tellChanges_brakes _ heard hlen a r hs ha hbefore hafter hk hf hr hstand hbrake hfast)
      hunread (.inl (by simp [State.station]))
  · intro x again
    have hnotRunning : ∀ t : State, t.seq.station = .armed ∨ t.seq.station = .held → t.station ≠ .running := by
      rintro t (h | h) <;> simp [State.station, h]
    refine ⟨fun hclear hepoch => ?_, fun hbefore hafter hp => ?_, fun hclear hepoch hbefore h1 _ =>
      ⟨fun hmask hlead => ?_, fun hsome hunknown => ?_⟩⟩
    · refine hto heard (State.tellChanges_quiet _ _ fun g hg =>
        heard.groupChanged_armed g b hs hb hg fun h => ?_) hunread (.inl (hnotRunning heard (.inl hs)))
      subst h
      exact ⟨hclear, hepoch.symm⟩
    · exact hto _ (State.tellChanges_cancels _ heard hlen b hs hb harmed hp hbefore hafter)
        (fun _ h => by cases h) (.inl (hnotRunning _ (.inr rfl)))
    · have hrearm := heard.rearmForEpoch_alone b hphase hmask hlead
      refine hto _ (State.tellChanges_rearms _ heard hsizes.2 hlen b _ hs hb hclear h1 hbefore hepoch hrearm
        rfl rfl) (fun c hc _ => ?_) (.inl (hnotRunning _ (.inl hs)))
      rw [← Option.some.inj hc]
      exact hunread b hb hphase
    · have hrearm := heard.rearmForEpoch_waits b hphase hsome fun m hm hother hbit =>
        (hpresence m).trans (hunknown m hm hother hbit)
      refine hto _ (State.tellChanges_rearms _ heard hsizes.2 hlen b _ hs hb hclear h1 hbefore hepoch hrearm
        rfl rfl) (fun c hc _ => ?_) (.inl (hnotRunning _ (.inl hs)))
      rw [← Option.some.inj hc]
      exact hunread b hb hphase
  · have hquiet : ∀ g, heard.groupChanged g = heard := fun g =>
      (heard.groupChanged_waiting g (.inl hs)).trans (heard.dispatch_noWork_idle hw hs)
    exact hto heard (State.tellChanges_quiet _ _ fun g _ => hquiet g)
      (fun b h => by cases hb.symm.trans h) (.inl (by rw [show heard.station = .idle from hs]; simp))
  · have hheld : ∀ t : State, t.station = .idle ∨ t.station = .held → t.candidate = heard.candidate →
        t.seq.paused = false → t.groupHalted e.group = true → t.dispatch = t.setStation .held := by
      intro t ht hc hpaused hg
      have hcandidate := heard.candidate_queueHead e es he (.inr hstack)
      exact t.dispatch_held ht (hc.trans hcandidate) (t.gate_of_halted (.segment e) (.inl hpaused) hg)
    refine hto _ (State.tellChanges_dispatches _ heard hsizes.2 hlen e.group _ (.inl hs)
      (fun h => Bool.noConfusion (hbefore.symm.trans (h.trans hafter)))
      (hheld heard (.inl hs) rfl hp hafter) fun h _ => ?_) (fun b h => by cases hb.symm.trans h)
      (.inl (by simp [State.station]))
    exact (State.groupChanged_waiting _ h (.inr rfl)).trans
      (hheld (heard.setStation .held) (.inr rfl) rfl hp hafter)
  · have hdispatch := heard.dispatch_queuedDwell e es n (.inr hs) hp hd hstack he hbody' hbarrier hafter
    rw [heard.takeQueueHead_eq e es he] at hdispatch
    exact hto _ (State.tellChanges_dispatches _ heard hsizes.2 hlen e.group _ (.inr hs)
      (fun h => Bool.noConfusion (hafter.symm.trans (h.symm.trans hbefore))) hdispatch
      fun g hg => State.groupChanged_running _ g _ rfl rfl hg fun h => h ▸ hafter)
      (fun b h => by cases hb.symm.trans h) (.inr (.inl hf))

end Sys2Proof.Machine

/-! ## Proofs: a SEGMENT body judged, and its acceptance (O29) -/

namespace Sys2Proof.Machine

/-! ### The checks of R7 -/

theorem maskOk_iff (own span : Nat) (m : Mask) : maskOk own span m = true ↔
    m.getLsbD own = true ∧ ∀ k, k < 32 → m.getLsbD k = true → k < span := by
  rw [maskOk, Bool.and_eq_true, List.all_eq_true]
  refine and_congr_right fun _ => ⟨fun h k hk hm => ?_, fun h k hk => ?_⟩
  · exact of_decide_eq_true (h k ((mem_members m k).2 ⟨hk, hm⟩))
  · obtain ⟨hlow, hm⟩ := (mem_members m k).1 hk
    exact decide_eq_true (h k hlow hm)

theorem boundOk_iff (body : List Byte) (o : Nat) : boundOk (segBound body o) = true ↔
    (segFlag body 4 = true → 1 ≤ fieldNat body o 4 ∧ fieldNat body o 4 ≤ 16777215) := by
  have hrange : boundOk (some (fieldNat body o 4)) = true ↔
      1 ≤ fieldNat body o 4 ∧ fieldNat body o 4 ≤ 16777215 := by
    rw [boundOk, Bool.and_eq_true, decide_eq_true_eq, decide_eq_true_eq]
    rfl
  unfold segBound
  split
  case isTrue h => rw [hrange, forall_prop_of_true h]
  case isFalse h => exact iff_of_true rfl fun hf => absurd hf h

theorem segShapeOk_iff (body : List Byte) (n : Nat)
    (h : segBodyLength (byteAt body 1).toNat (segFlag body 4) = some n) :
    segShapeOk body = true ↔ body.length = segBodyAt body + n := by
  rw [segShapeOk, h, decide_eq_true_eq]

theorem toInt_ne_zero_iff {w : Nat} (x : BitVec w) : x.toInt ≠ 0 ↔ x ≠ 0 := by
  rw [← BitVec.toInt_zero (w := w), Ne, BitVec.toInt_inj]
  exact Iff.rfl

/-- What R7 asks of a body whatever its kind: its group, its barrier block and its profile block. -/
def SegmentCommon (own span : Nat) (body : List Byte) : Prop :=
  (byteAt body 3).toNat ≤ 15 ∧
  (segFlag body 3 = true → (byteAt body 3).toNat ≠ 0 ∧
    maskOk own span (BitVec.ofNat 32 (fieldNat body (segBarrierAt body + 1) 4)) = true) ∧
  (segFlag body 2 = true → profileOk (segProfileBlock body) = true)

/-- The entry that the bytes of a well-made body give (R4, 13.3). -/
def segmentEntry (default : Profile) (body : List Byte) (b : Body) : QueueEntry :=
  { tag := byteAt body 0, insert := segFlag body 0, chain := segFlag body 1
    group := (byteAt body 3).toNat
    profile := if segFlag body 2 = true then segProfileBlock body else default
    barrier := segBarrierBlock body, body := b, bound := false }

section

variable (own span : Nat) (default : Profile) (body : List Byte)

theorem segmentOf_isSome_iff (b : Body) (hb : segBody body = some b) :
    (segmentOf own span default body).isSome = true ↔
      segShapeOk body = true ∧ SegmentCommon own span body ∧
        segFlagsOk (segFlag body 1) (segFlag body 2) b.kind = true ∧ segBodyOk own span b = true := by
  have hbarrier : ((segBarrierBlock body).isNone || decide ((byteAt body 3).toNat ≠ 0)) = true ∧
      (match segBarrierBlock body with | none => true | some k => maskOk own span k.mask) = true ↔
      (segFlag body 3 = true → (byteAt body 3).toNat ≠ 0 ∧
        maskOk own span (BitVec.ofNat 32 (fieldNat body (segBarrierAt body + 1) 4)) = true) := by
    unfold segBarrierBlock
    split
    case isTrue h => simp [h]
    case isFalse h => simp [h]
  have hprofile : (!segFlag body 2 || profileOk (segProfileBlock body)) = true ↔
      (segFlag body 2 = true → profileOk (segProfileBlock body) = true) := by
    cases segFlag body 2 <;> simp
  rw [segmentOf, hb, SegmentCommon, ← hbarrier, ← hprofile]
  simp only [Option.isSome_ite, Bool.and_eq_true, decide_eq_true_eq]
  tauto

theorem segmentOf_eq (x : QueueEntry) (h : segmentOf own span default body = some x) :
    ∃ b, segBody body = some b ∧ x = segmentEntry default body b := by
  cases hb : segBody body with
  | none => simp [segmentOf, hb] at h
  | some b =>
    rw [segmentOf, hb] at h
    obtain ⟨-, hx⟩ := Option.ite_none_right_eq_some.1 h
    exact ⟨b, rfl, (Option.some.inj hx).symm⟩

theorem segmentOf_of_noBody (h : segBody body = none) : segmentOf own span default body = none := by
  rw [segmentOf, h]

end

/-! ### The body of each kind (13.3) -/

section

variable (body : List Byte)

theorem segBody_move (h : (byteAt body 1).toNat = 1) :
    segBody body = some (.move (position32 body (segBodyAt body)).toInt) := by simp only [segBody, h]

theorem segBody_goto (h : (byteAt body 1).toNat = 2) :
    segBody body = some (.goto (position32 body (segBodyAt body))) := by simp only [segBody, h]

theorem segBody_home (h : (byteAt body 1).toNat = 3) :
    segBody body = some (.home (if (byteAt body (segBodyAt body)).getLsbD 0 = true then .neg else .pos)
      ((byteAt body (segBodyAt body)).toNat / 16) (position32 body (segBodyAt body + 1))
      (segBound body (segBodyAt body + 5))) := by simp only [segBody, h]

theorem segBody_dwell (h : (byteAt body 1).toNat = 4) :
    segBody body = some (.dwell (fieldNat body (segBodyAt body) 2)) := by simp only [segBody, h]

theorem segBody_follow (h : (byteAt body 1).toNat = 5) :
    segBody body = some (.follow (byteAt body (segBodyAt body)).toNat
      (byteAt body (segBodyAt body + 1)).toInt (byteAt body (segBodyAt body + 2)).toNat
      (segBound body (segBodyAt body + 3))) := by simp only [segBody, h]

theorem segBody_unknown (h : ¬ (1 ≤ (byteAt body 1).toNat ∧ (byteAt body 1).toNat ≤ 5)) :
    segBody body = none := by
  unfold segBody
  split
  case h_6 => rfl
  all_goals omega

end

/-- Only the five kinds have a body. -/
theorem segBody_known (body : List Byte) (b : Body) (hb : segBody body = some b) :
    (byteAt body 1).toNat = 1 ∨ (byteAt body 1).toNat = 2 ∨ (byteAt body 1).toNat = 3 ∨
      (byteAt body 1).toNat = 4 ∨ (byteAt body 1).toNat = 5 := by
  by_contra h
  exact absurd ((segBody_unknown body (by omega)).symm.trans hb) (by simp)

/-! ### Length and ranges by the kind (R6, R7) -/

/-- What R7 asks of the body of a kind, as 13.3 lays it out. -/
def SegmentKindOk (own span : Nat) (body : List Byte) (kind : Nat) : Prop :=
  let o := segBodyAt body
  (kind = 1 → body.length = o + 4 ∧ position32 body o ≠ 0 ∧
    (position32 body o).toInt.natAbs ≤ 16777215) ∧
  (kind = 2 → body.length = o + 4) ∧
  (kind = 3 → if segFlag body 4 = true
    then body.length = o + 9 ∧ 1 ≤ fieldNat body (o + 5) 4 ∧ fieldNat body (o + 5) 4 ≤ 16777215
    else body.length = o + 5) ∧
  (kind = 4 → body.length = o + 2 ∧ fieldNat body o 2 ≠ 0) ∧
  (kind = 5 → (byteAt body o).toNat ≠ own ∧ (byteAt body o).toNat < span ∧
    byteAt body (o + 1) ≠ 0 ∧ byteAt body (o + 2) ≠ 0 ∧
    if segFlag body 4 = true
    then body.length = o + 7 ∧ 1 ≤ fieldNat body (o + 3) 4 ∧ fieldNat body (o + 3) 4 ≤ 16777215
    else body.length = o + 3)

theorem segBodyOk_move (own span : Nat) (n : Int) :
    segBodyOk own span (.move n) = true ↔ n ≠ 0 ∧ n.natAbs ≤ 16777215 := by
  rw [segBodyOk, Bool.and_eq_true, decide_eq_true_eq, decide_eq_true_eq]
  rfl

theorem segBodyOk_follow (own span leader : Nat) (num : Int) (den : Nat) (bound : Option Nat) :
    segBodyOk own span (.follow leader num den bound) = true ↔
      leader ≠ own ∧ leader < span ∧ num ≠ 0 ∧ den ≠ 0 ∧ boundOk bound = true := by
  simp only [segBodyOk, Bool.and_eq_true, decide_eq_true_eq, and_assoc]

/-- A length that grows by 4 with the bound, and the bound's range. -/
theorem length_and_bound_iff (body : List Byte) (long short o : Nat) :
    (body.length = segBodyAt body + (if segFlag body 4 = true then long else short) ∧
      boundOk (segBound body o) = true) ↔
    if segFlag body 4 = true
    then body.length = segBodyAt body + long ∧ 1 ≤ fieldNat body o 4 ∧ fieldNat body o 4 ≤ 16777215
    else body.length = segBodyAt body + short := by
  rw [boundOk_iff]
  cases segFlag body 4 <;> simp

section

variable (own span : Nat) (default : Profile) (body : List Byte)

/-- Shape and ranges of a body of one of the five kinds. -/
theorem segmentKindOk_iff (b : Body) (hb : segBody body = some b) :
    segShapeOk body = true ∧ segBodyOk own span b = true ↔ SegmentKindOk own span body (byteAt body 1).toNat := by
  rcases segBody_known body b hb with h | h | h | h | h
  · obtain rfl := Option.some.inj ((segBody_move body h).symm.trans hb)
    rw [segShapeOk_iff body 4 (by simp only [h, segBodyLength])]
    rw [segBodyOk_move, toInt_ne_zero_iff]
    simp [SegmentKindOk, h]
  · obtain rfl := Option.some.inj ((segBody_goto body h).symm.trans hb)
    rw [segShapeOk_iff body 4 (by simp only [h, segBodyLength])]
    simp [SegmentKindOk, h, segBodyOk]
  · obtain rfl := Option.some.inj ((segBody_home body h).symm.trans hb)
    rw [segShapeOk_iff body (if segFlag body 4 = true then 9 else 5) (by simp only [h, segBodyLength]),
      segBodyOk, length_and_bound_iff]
    simp [SegmentKindOk, h]
  · obtain rfl := Option.some.inj ((segBody_dwell body h).symm.trans hb)
    rw [segShapeOk_iff body 2 (by simp only [h, segBodyLength])]
    simp [SegmentKindOk, h, segBodyOk]
  · obtain rfl := Option.some.inj ((segBody_follow body h).symm.trans hb)
    have hden : (byteAt body (segBodyAt body + 2)).toNat ≠ 0 ↔ byteAt body (segBodyAt body + 2) ≠ 0 :=
      not_congr (BitVec.toNat_inj (y := 0))
    have hsplit : SegmentKindOk own span body (byteAt body 1).toNat ↔
        (byteAt body (segBodyAt body)).toNat ≠ own ∧ (byteAt body (segBodyAt body)).toNat < span ∧
        byteAt body (segBodyAt body + 1) ≠ 0 ∧ byteAt body (segBodyAt body + 2) ≠ 0 ∧
        body.length = segBodyAt body + (if segFlag body 4 = true then 7 else 3) ∧
        boundOk (segBound body (segBodyAt body + 3)) = true := by
      rw [length_and_bound_iff]
      simp [SegmentKindOk, h]
    rw [segShapeOk_iff body (if segFlag body 4 = true then 7 else 3) (by simp only [h, segBodyLength]),
      segBodyOk_follow, toInt_ne_zero_iff, hden, hsplit]
    constructor
    · rintro ⟨hlen, hown, hspan, hnum, hden, hbound⟩
      exact ⟨hown, hspan, hnum, hden, hlen, hbound⟩
    · rintro ⟨hown, hspan, hnum, hden, hlen, hbound⟩
      exact ⟨hlen, hown, hspan, hnum, hden, hbound⟩

/-- CHAIN on MOVE and GOTO only, and no profile block on a DWELL (R7 items 3 and 5). -/
theorem segFlagsOk_iff (b : Body) (hb : segBody body = some b) (chain profile : Bool) :
    segFlagsOk chain profile b.kind = true ↔ (chain = true → (byteAt body 1).toNat ≤ 2) ∧
      (profile = true → (byteAt body 1).toNat ≠ 4) := by
  rcases segBody_known body b hb with h | h | h | h | h
  · obtain rfl := Option.some.inj ((segBody_move body h).symm.trans hb)
    simp [segFlagsOk, Body.kind, h]
  · obtain rfl := Option.some.inj ((segBody_goto body h).symm.trans hb)
    simp [segFlagsOk, Body.kind, h]
  · obtain rfl := Option.some.inj ((segBody_home body h).symm.trans hb)
    simp [segFlagsOk, Body.kind, h]
  · obtain rfl := Option.some.inj ((segBody_dwell body h).symm.trans hb)
    simp [segFlagsOk, Body.kind, h]
  · obtain rfl := Option.some.inj ((segBody_follow body h).symm.trans hb)
    simp [segFlagsOk, Body.kind, h]

/-- The fifteen checks of R7, in the order the statement of O29 lists them. -/
theorem segmentOf_wellMade_iff : (segmentOf own span default body).isSome = true ↔
    1 ≤ (byteAt body 1).toNat ∧ (byteAt body 1).toNat ≤ 5 ∧ (byteAt body 3).toNat ≤ 15 ∧
    (segFlag body 1 = true → (byteAt body 1).toNat ≤ 2) ∧
    (segFlag body 3 = true → (byteAt body 3).toNat ≠ 0 ∧
      maskOk own span (BitVec.ofNat 32 (fieldNat body (segBarrierAt body + 1) 4)) = true) ∧
    (segFlag body 2 = true → (byteAt body 1).toNat ≠ 4 ∧ profileOk (segProfileBlock body) = true) ∧
    SegmentKindOk own span body (byteAt body 1).toNat := by
  cases hb : segBody body with
  | none =>
    have hunknown : ¬ (1 ≤ (byteAt body 1).toNat ∧ (byteAt body 1).toNat ≤ 5) := by
      rintro ⟨h1, h5⟩
      have hkind : (byteAt body 1).toNat = 1 ∨ (byteAt body 1).toNat = 2 ∨ (byteAt body 1).toNat = 3 ∨
        (byteAt body 1).toNat = 4 ∨ (byteAt body 1).toNat = 5 := by omega
      rcases hkind with h | h | h | h | h <;> simp [segBody, h] at hb
    rw [segmentOf_of_noBody own span default body hb]
    exact iff_of_false Bool.noConfusion fun h => hunknown ⟨h.1, h.2.1⟩
  | some b =>
    have hknown : 1 ≤ (byteAt body 1).toNat ∧ (byteAt body 1).toNat ≤ 5 := by
      have := segBody_known body b hb
      omega
    rw [segmentOf_isSome_iff own span default body b hb, ← segmentKindOk_iff own span body b hb,
      segFlagsOk_iff body b hb, SegmentCommon]
    tauto

/-- The body of the kind, by its code (13.3). -/
theorem segBody_eq (b : Body) (hb : segBody body = some b) : b = match (byteAt body 1).toNat with
    | 1 => .move (position32 body (segBodyAt body)).toInt
    | 2 => .goto (position32 body (segBodyAt body))
    | 3 => .home (if (byteAt body (segBodyAt body)).getLsbD 0 = true then .neg else .pos)
        ((byteAt body (segBodyAt body)).toNat / 16) (position32 body (segBodyAt body + 1))
        (segBound body (segBodyAt body + 5))
    | 4 => .dwell (fieldNat body (segBodyAt body) 2)
    | _ => .follow (byteAt body (segBodyAt body)).toNat (byteAt body (segBodyAt body + 1)).toInt
        (byteAt body (segBodyAt body + 2)).toNat (segBound body (segBodyAt body + 3)) := by
  rcases segBody_known body b hb with h | h | h | h | h
  · simpa only [h] using Option.some.inj (hb.symm.trans (segBody_move body h))
  · simpa only [h] using Option.some.inj (hb.symm.trans (segBody_goto body h))
  · simpa only [h] using Option.some.inj (hb.symm.trans (segBody_home body h))
  · simpa only [h] using Option.some.inj (hb.symm.trans (segBody_dwell body h))
  · simpa only [h] using Option.some.inj (hb.symm.trans (segBody_follow body h))

end

end Sys2Proof.Machine

/-! ## Proofs: the acceptance of a SEGMENT (O29) -/

namespace Sys2Proof.Machine

theorem SameTags.trans {q r x : SegQueue} (h : SameTags q r) (h' : SameTags r x) : SameTags q x :=
  ⟨h'.expected.trans h.expected, h'.fresh.trans h.fresh, h'.refusal.trans h.refusal⟩

/-- Without the answer to a message or a reset no change reaches the tags (R15, R16). -/
theorem Change.keeps_tags {P : Permit → Prop} {s t : State} (h : Change P s t) (hp : ¬ P .answers)
    (hc : ¬ P .clears) : SameTags s.queue t.queue := by
  cases h with
  | queue q _ htags => exact htags.resolve_left hp
  | place e _ _ ha => exact absurd ha hp
  | reset hclears => exact absurd hclears hc
  | useRecord => rw [s.useRecord_eq]; exact ⟨rfl, rfl, rfl⟩
  | pushResidual => rw [s.pushResidual_eq]; exact ⟨rfl, rfl, rfl⟩
  | endRecord r =>
    cases ha : s.seq.active with
    | none => rw [s.endRecord_none r ha]; exact ⟨rfl, rfl, rfl⟩
    | some a => rw [s.endRecord_some r a ha]; exact ⟨rfl, rfl, rfl⟩
  | take src => cases src <;> exact ⟨rfl, rfl, rfl⟩
  | _ => exact ⟨rfl, rfl, rfl⟩

/-- No command's permit: what follows an acceptance within its happening. -/
def permitsNone (_ : Permit) : Prop := False

theorem Changes.keeps_tags {s t : State} (h : Changes permitsNone s t) : SameTags s.queue t.queue :=
  h.keeps (I := fun u => SameTags s.queue u.queue)
    (fun _ _ hc hu => hu.trans (hc.keeps_tags id id)) ⟨rfl, rfl, rfl⟩

section

variable (s : State) (e : QueueEntry)

/-- The state once an accepted SEGMENT has been placed (R15). -/
def State.placed : State := s.setQueue { s.queue with
  entries := placeEntry e s.queue.entries, expected := s.queue.expected + 1, fresh := false }

theorem State.accept_dispatches (h : e.insert = false ∨ s.preempts = false) :
    s.accept e = (s.placed e).dispatch := by
  refine if_neg fun hc => ?_
  obtain ⟨hi, hp⟩ := Bool.and_eq_true_iff.1 hc
  exact h.elim (fun hn => Bool.noConfusion (hn.symm.trans hi)) fun hn => Bool.noConfusion (hn.symm.trans hp)

/-- A SEGMENT that preempts has a place on the stack (R77, R78). -/
theorem State.room_of_preempts (hp : s.preempts = true) (hr : s.insertRefusal = none) :
    s.stack.residuals.length + 1 ≤ 3 := by
  have hrun : s.station = .running := of_decide_eq_true (Bool.and_eq_true_iff.1 hp).1
  rw [s.insertRefusal_of_running hrun, if_pos hp] at hr
  by_contra hfull
  rw [if_neg hfull] at hr
  cases hr

/-- Acceptance writes the tags and FRESH, and touches nothing outside the motion side. -/
theorem State.accept_tags (h : e.insert = false ∨ s.insertRefusal = none) :
    SameTags (s.placed e).queue (s.accept e).queue ∧ (s.accept e).outside = s.outside := by
  have hstart : Changes permitsNone (s.placed e) (s.placed e) := .refl _
  by_cases hc : (e.insert && s.preempts) = true
  · obtain ⟨hi, hp⟩ := Bool.and_eq_true_iff.1 hc
    have hroom := s.room_of_preempts hp (h.resolve_left (by simp [hi]))
    have haccept : s.accept e = (s.placed e).enterIdle ((s.placed e).beginStop .preempt false false) :=
      if_pos hc
    rw [haccept]
    refine ⟨(hstart.beginStop (fun _ => hroom) (by simp)).enterIdle.keeps_tags, ?_⟩
    rw [State.enterIdle_outside, State.beginStop_outside]
    rfl
  · have haccept : s.accept e = (s.placed e).dispatch := if_neg hc
    rw [haccept]
    refine ⟨hstart.dispatch.keeps_tags, ?_⟩
    rw [State.dispatch_outside]
    rfl

theorem State.acceptRefusal_none (hroom : s.queue.entries.length < 16)
    (h : e.insert = false ∨ s.insertRefusal = none) : s.acceptRefusal e = none := by
  rw [State.acceptRefusal, if_neg (by omega)]
  split
  case isTrue hi => exact h.resolve_left (by simp [hi])
  case isFalse => rfl

/-- Outside RUNNING nothing is preempted, and outside ARMED too no INSERT is refused (R77, R78). -/
theorem State.preempts_of_notRunning (hs : s.station ≠ .running) : s.preempts = false := by
  simp [State.preempts, hs]

theorem State.insertRefusal_none (hs : s.station = .idle ∨ s.station = .stopping ∨ s.station = .settling ∨
    s.station = .faulted) : s.insertRefusal = none := by
  rcases hs with hs | hs | hs | hs <;> rw [State.insertRefusal, hs]

end

section

variable (s : State) (sender : Nat) (dest : Byte) (body : List Byte) (ha : s.addressed dest)
  (hlen : 4 ≤ body.length) (htag : byteAt body 0 = s.queue.expected)

include ha hlen htag

theorem exec_segment_malformed (h : segmentOf s.own s.cfg.span s.cfg.defaultProfile body = none) :
    exec (.segment sender dest body) s =
      .next { s with queue := s.queue.refused .segment (some (byteAt body 0)) .badField } := by
  have hrefused : s.takeCurrent body = s.refuse .segment (some (byteAt body 0)) .badField := by
    rw [State.takeCurrent, h]
  rw [exec_segment_of_addressed s sender dest body ha,
    s.takeSegment_of_current body hlen (by rw [htag, dist8_self]), hrefused]
  rfl

theorem exec_segment_accepted (e : QueueEntry)
    (he : segmentOf s.own s.cfg.span s.cfg.defaultProfile body = some e)
    (hroom : s.queue.entries.length < 16) (h : e.insert = false ∨ s.insertRefusal = none) :
    exec (.segment sender dest body) s = .next (s.accept e) := by
  rw [exec_segment_of_addressed s sender dest body ha,
    s.takeSegment_of_accepted body e hlen htag he (s.acceptRefusal_none e hroom h)]

/-- A SEGMENT accepted while dispatch does not run and nothing is preempted. -/
theorem exec_segment_queued (e : QueueEntry)
    (he : segmentOf s.own s.cfg.span s.cfg.defaultProfile body = some e) (hroom : s.queue.entries.length < 16)
    (h : (e.insert = false ∧ s.busy) ∨ s.station = .stopping ∨ s.station = .settling ∨ s.station = .faulted) :
    exec (.segment sender dest body) s = .next (s.placed e) := by
  have hbusy : s.busy := by
    rcases h with ⟨-, h⟩ | h | h | h
    · exact h
    all_goals simp [State.busy, h]
  have hrefusal : e.insert = false ∨ s.insertRefusal = none :=
    h.imp (fun h => h.1) fun hs => s.insertRefusal_none (.inr hs)
  have hkept : e.insert = false ∨ s.preempts = false := h.imp (fun h => h.1) fun hs =>
    s.preempts_of_notRunning (by rcases hs with hs | hs | hs <;> simp [hs])
  rw [exec_segment_accepted s sender dest body ha hlen htag e he hroom hrefusal,
    s.accept_dispatches e hkept, State.dispatch_busy (s.placed e) hbusy]

/-- A DWELL accepted by an idle station with no other work starts at once (R28 to R30, R33). -/
theorem exec_segment_dwell (e : QueueEntry)
    (he : segmentOf s.own s.cfg.span s.cfg.defaultProfile body = some e) (n : Nat) (hs : s.station = .idle)
    (hwork : s.noWork) (hp : s.seq.paused = false) (hd : s.drive.clear = .none) (hbody : e.body = .dwell n)
    (hbarrier : e.barrier = none) (hclear : s.groupHalted e.group = false) :
    exec (.segment sender dest body) s = .next { s with
      queue := { s.queue with expected := s.queue.expected + 1, fresh := false }
      seq := { s.seq with
        station := .running
        active := some ⟨.segment e, none, false, false, none,
          some (s.link.cycle + BitVec.ofNat 16 n)⟩ } } := by
  obtain ⟨hempty, hstack⟩ := hwork
  have hentries : (s.placed e).queue.entries = [e] := by
    change placeEntry e s.queue.entries = [e]
    rw [hempty]
    rfl
  have hdispatch := State.dispatch_queuedDwell (s.placed e) e [] n (.inl hs) hp hd hstack hentries hbody
    hbarrier hclear
  rw [exec_segment_accepted s sender dest body ha hlen htag e he (by simp [hempty])
      (.inr (s.insertRefusal_none (.inl hs))),
    s.accept_dispatches e (.inr (s.preempts_of_notRunning (by simp [hs]))), hdispatch,
    State.takeQueueHead_eq (s.placed e) e [] hentries, ← hempty]
  rfl

end

/-- Settles O29: the checks of R7, the refusal of a body they do not pass, and the acceptance. -/
theorem segmentIsAccepted : Obligations.SegmentIsAccepted := by
  refine ⟨fun own span default body _ _ => ?_, fun s sender dest body ha hlen htag he => ?_,
    fun s sender dest body e ha hlen htag he hroom => ⟨fun h => ?_, fun h => ?_,
      fun n hs hw hp hd hb hbarrier hg => ?_⟩⟩
  · intro kind group insert chain profile barrier bounded b o rates mask e
    have hmask : maskOk own span mask = true ↔
        mask.getLsbD own = true ∧ ∀ k, k < 32 → mask.getLsbD k = true → k < span := maskOk_iff own span mask
    have hrates : profileOk rates = true ↔ 1 ≤ rates.fs ∧ rates.fs ≤ rates.ft ∧ rates.ft ≤ 1000000 ∧
        1 ≤ rates.a ∧ rates.a ≤ 16777215 ∧ 1 ≤ rates.d ∧ rates.d ≤ 16777215 := by
      simpa only [and_assoc] using profileOk_iff rates
    refine ⟨?_, fun x hx => ?_⟩
    · rw [← hmask, ← hrates]
      exact segmentOf_wellMade_iff own span default body
    · obtain ⟨y, hbody, rfl⟩ := segmentOf_eq own span default body x hx
      exact ⟨rfl, rfl, rfl, rfl, rfl, rfl, rfl, segBody_eq body y hbody⟩
  · exact exec_segment_malformed s sender dest body ha hlen htag he
  · obtain ⟨htags, houtside⟩ := s.accept_tags e h
    obtain ⟨hloader, hlink, hpeers, -, -⟩ := outside_parts houtside
    exact ⟨_, exec_segment_accepted s sender dest body ha hlen htag e he hroom h, htags.expected, htags.fresh,
      htags.refusal, hlink, hpeers, hloader⟩
  · exact exec_segment_queued s sender dest body ha hlen htag e he hroom h
  · exact exec_segment_dwell s sender dest body ha hlen htag e he n hs hw hp hd hb hbarrier hg

end Sys2Proof.Machine

/-! ## Proofs: fields of a written body, and the STATUS body (O21) -/

namespace Sys2Proof.Machine

/-! ### Reading back what stands at an offset (13.1) -/

section

variable (bytes front : List Byte) (o : Nat)

theorem field_of_eq (part rest : List Byte) (n : Nat) (h : bytes = front ++ (part ++ rest))
    (hlen : front.length = o) (hn : part.length = n) : field bytes o n = part := by
  rw [field, h, ← hlen, List.drop_left, ← hn, List.take_left]

theorem fieldNat_of_eq (part rest : List Byte) (n : Nat) (h : bytes = front ++ (part ++ rest))
    (hlen : front.length = o) (hn : part.length = n) : fieldNat bytes o n = leNat part := by
  rw [fieldNat, field_of_eq bytes front o part rest n h hlen hn]

end

theorem leNat_bytes2 (w : BitVec 16) : leNat (bytes2 w) = w.toNat := by
  rw [bytes2, leNat_leBytes]
  exact Nat.mod_eq_of_lt w.isLt

theorem leNat_bytes4 (w : BitVec 32) : leNat (bytes4 w) = w.toNat := by
  rw [bytes4, leNat_leBytes]
  exact Nat.mod_eq_of_lt w.isLt

theorem ofNat_leNat_bytes2 (w : BitVec 16) : BitVec.ofNat 16 (leNat (bytes2 w)) = w := by
  rw [leNat_bytes2, BitVec.ofNat_toNat, BitVec.setWidth_eq]

theorem ofNat_leNat_bytes4 (w : BitVec 32) : BitVec.ofNat 32 (leNat (bytes4 w)) = w := by
  rw [leNat_bytes4, BitVec.ofNat_toNat, BitVec.setWidth_eq]

/-! ### Masks of marks (13.4, 13.5) -/

theorem testBit_maskBits (bs : List Bool) (i : Nat) : (maskBits bs).testBit i = bs.getD i false := by
  induction bs generalizing i with
  | nil => simp [maskBits]
  | cons b bs ih =>
    have hbit : maskBits (b :: bs) = Nat.bit b (maskBits bs) := by
      rw [maskBits, Nat.bit_val]
      omega
    cases i with
    | zero => rw [hbit, Nat.testBit_bit_zero]; rfl
    | succ i => rw [hbit, Nat.testBit_bit_succ, ih]; rfl

/-- A mask of at most 16 marks is read back from its two bytes. -/
theorem testBit_leNat_mask (bs : List Bool) (i : Nat) (hi : i < 16) :
    (leNat (leBytes 2 (maskBits bs))).testBit i = bs.getD i false := by
  rw [leNat_leBytes, show 256 ^ 2 = 2 ^ 16 from rfl, Nat.testBit_mod_two_pow, testBit_maskBits,
    decide_eq_true hi, Bool.true_and]

theorem getD_map_group {α : Type} (f : GroupEntry → α) (d : α) (gs : List GroupEntry) (i : Nat)
    (hi : i < gs.length) : (gs.map f).getD i d = f (gs.getD i .reset) := by
  rw [List.getD_eq_getElem _ _ (by rwa [List.length_map]), List.getElem_map, List.getD_eq_getElem _ _ hi]

/-! ### The parts of the STATUS body (13.4) -/

/-- Five flags in a byte, from bit 0. -/
theorem flags_bits (a b c d e : Bool) :
    let x : Byte := BitVec.ofNat 8 (a.toNat + 2 * b.toNat + 4 * c.toNat + 8 * d.toNat + 16 * e.toNat)
    x.getLsbD 0 = a ∧ x.getLsbD 1 = b ∧ x.getLsbD 2 = c ∧ x.getLsbD 3 = d ∧ x.getLsbD 4 = e := by
  revert a b c d e
  decide

section

variable (s : State)

/-- The bytes of STATUS before the advertisement. -/
def State.statusHead : List Byte :=
  [s.station.code, s.statusFlags, BitVec.ofNat 8 s.freeCount, s.queue.expected,
   (s.seq.lastFinished.map (fun p => p.1)).getD 0,
   codeOr0 Result.code (s.seq.lastFinished.map (fun p => p.2)),
   s.activeTag.getD 0, codeOr0 SegKind.code s.activeKind,
   BitVec.ofNat 8 s.stack.residuals.length] ++
  bytes4 s.gen.position ++ bytes4 s.encoder.position ++
  [codeOr0 (fun k => BitVec.ofNat 8 k.code) s.faults.current,
   codeOr0 MsgKind.code s.queue.refusal.kind, s.queue.refusal.tagSent,
   codeOr0 Reason.code s.queue.refusal.reason, s.queue.refusal.count]

theorem State.statusHead_length : s.statusHead.length = 22 := rfl

theorem State.advBytes_length : s.advBytes.length = 10 := by
  unfold State.advBytes
  split <;> rfl

theorem State.statusBody_eq : s.statusBody =
    s.statusHead ++ (s.advBytes ++ (s.groups.map (fun g => g.epoch) ++ s.haltedMask)) := by
  rw [← List.append_assoc, ← List.append_assoc]
  rfl

theorem State.haltedMask_length : s.haltedMask.length = 2 := leBytes_length _ _

theorem State.statusBody_length (h : s.groups.length = 15) : s.statusBody.length = 49 := by
  rw [s.statusBody_eq, List.length_append, List.length_append, List.length_append, s.statusHead_length,
    s.advBytes_length, s.haltedMask_length, List.length_map, h]

theorem State.statusBody_position : position32 s.statusBody 9 = s.gen.position := ofNat_leNat_bytes4 _

theorem State.statusBody_encoder : position32 s.statusBody 13 = s.encoder.position := ofNat_leNat_bytes4 _

theorem State.statusBody_epochs (h : s.groups.length = 15) :
    field s.statusBody 32 15 = s.groups.map (fun g => g.epoch) := by
  refine field_of_eq _ (s.statusHead ++ s.advBytes) 32 _ s.haltedMask 15 ?_ ?_ (by rw [List.length_map, h])
  · rw [s.statusBody_eq, List.append_assoc]
  · rw [List.length_append, s.statusHead_length, s.advBytes_length]

theorem State.statusBody_halted (h : s.groups.length = 15) :
    fieldNat s.statusBody 47 2 = leNat s.haltedMask := by
  refine fieldNat_of_eq _ (s.statusHead ++ (s.advBytes ++ s.groups.map (fun g => g.epoch))) 47 _ [] 2 ?_ ?_
    s.haltedMask_length
  · rw [s.statusBody_eq, List.append_nil, List.append_assoc, List.append_assoc]
  · rw [List.length_append, List.length_append, s.statusHead_length, s.advBytes_length, List.length_map, h]

/-- The HALTED mask of a table of 15 groups (R112). -/
theorem State.testBit_haltedMask (h : s.groups.length = 15) (i : Nat) (hi : i < 15) :
    (leNat s.haltedMask).testBit i = decide ((s.groups.getD i .reset).condition = .halted) := by
  rw [State.haltedMask, testBit_leNat_mask _ i (by omega),
    getD_map_group (fun g => decide (g.condition = .halted)) false _ i (by omega)]

/-- The advertisement is read back as the barrier record (R91, R198). -/
theorem State.advOf_statusBody : advOf s.statusBody = match s.barrier with
    | none => ⟨false, false, 0, 0, 0, 0, 0⟩
    | some b => ⟨true, decide (b.phase = .started), BitVec.ofNat 8 b.group, b.number, b.epoch, b.since,
        b.mask⟩ := by
  have hbyte : ∀ i, i < 10 → byteAt s.statusBody (22 + i) = byteAt s.advBytes i := by
    intro i hi
    rw [s.statusBody_eq, byteAt, byteAt, List.getD_append_right _ _ _ _ (by rw [s.statusHead_length]; omega),
      s.statusHead_length, Nat.add_sub_cancel_left, List.getD_append _ _ _ _ (by rwa [s.advBytes_length])]
  have hflags : ∀ started : Bool, (if started = true then 3 else 1 : Byte).getLsbD 0 = true ∧
      (if started = true then 3 else 1 : Byte).getLsbD 1 = started := by decide
  rw [advOf, hbyte 0 (by omega), hbyte 1 (by omega), hbyte 2 (by omega), hbyte 3 (by omega)]
  cases hb : s.barrier with
  | none =>
    have hadv : s.advBytes = List.replicate 10 0 := by rw [State.advBytes, hb]
    rw [hadv, fieldNat_of_eq s.statusBody (s.statusHead ++ List.replicate 4 0) 26 (List.replicate 2 0)
        (List.replicate 4 0 ++ (s.groups.map (fun g => g.epoch) ++ s.haltedMask)) 2
        (by rw [s.statusBody_eq, hadv, List.append_assoc]; rfl) rfl rfl,
      fieldNat_of_eq s.statusBody (s.statusHead ++ List.replicate 6 0) 28 (List.replicate 4 0)
        (s.groups.map (fun g => g.epoch) ++ s.haltedMask) 4
        (by rw [s.statusBody_eq, hadv, List.append_assoc]; rfl) rfl rfl]
    rfl
  | some b =>
    have hadv : s.advBytes = [(if b.phase = .started then 3 else 1), BitVec.ofNat 8 b.group, b.number,
        b.epoch] ++ (bytes2 b.since ++ bytes4 b.mask) := by
      rw [State.advBytes, hb]
      exact List.append_assoc _ _ _
    have hstarted : (if b.phase = .started then 3 else 1 : Byte) =
        if decide (b.phase = .started) = true then 3 else 1 := by simp only [decide_eq_true_eq]
    obtain ⟨hpresent, hphase⟩ := hflags (decide (b.phase = .started))
    rw [hadv, fieldNat_of_eq s.statusBody (s.statusHead ++ [if b.phase = .started then 3 else 1,
          BitVec.ofNat 8 b.group, b.number, b.epoch]) 26 (bytes2 b.since)
        (bytes4 b.mask ++ (s.groups.map (fun g => g.epoch) ++ s.haltedMask)) 2
        (by rw [s.statusBody_eq, hadv, List.append_assoc]; rfl) rfl rfl,
      fieldNat_of_eq s.statusBody (s.statusHead ++ ([if b.phase = .started then 3 else 1,
          BitVec.ofNat 8 b.group, b.number, b.epoch] ++ bytes2 b.since)) 28 (bytes4 b.mask)
        (s.groups.map (fun g => g.epoch) ++ s.haltedMask) 4
        (by rw [s.statusBody_eq, hadv, List.append_assoc]; rfl) rfl rfl,
      ofNat_leNat_bytes2, ofNat_leNat_bytes4]
    have hfirst : byteAt ([(if b.phase = .started then 3 else 1), BitVec.ofNat 8 b.group, b.number,
        b.epoch] ++ (bytes2 b.since ++ bytes4 b.mask)) 0 =
        if decide (b.phase = .started) = true then 3 else 1 := hstarted
    rw [hfirst, hpresent, hphase]
    rfl

/-- The STATUS body is read back (R171, R177). -/
theorem State.statusOf_statusBody (h : s.groups.length = 15) : ∃ p, statusOf s.statusBody = some p ∧
    p.position = s.gen.position ∧ p.adv = advOf s.statusBody ∧
    p.epochs = s.groups.map (fun g => g.epoch) ∧
    ∀ i, i < 15 → p.haltedMask.getLsbD i = decide ((s.groups.getD i .reset).condition = .halted) := by
  refine ⟨_, if_pos (s.statusBody_length h), s.statusBody_position, rfl, s.statusBody_epochs h,
    fun i hi => ?_⟩
  have hbit := s.testBit_haltedMask h i hi
  rw [← s.statusBody_halted h] at hbit
  rw [← hbit, BitVec.getLsbD_ofNat, decide_eq_true (by omega), Bool.true_and]

/-- Every code of 13.6 that the first 22 bytes carry stands at its offset. -/
theorem State.refusalTag_sent :
    (s.queue.refusal.kind ≠ some .segment ∨ s.queue.refusal.tag = none → byteAt s.statusBody 19 = 0) ∧
    (∀ tag, s.queue.refusal.kind = some .segment → s.queue.refusal.tag = some tag →
      byteAt s.statusBody 19 = tag) := by
  have hbyte : byteAt s.statusBody 19 = s.queue.refusal.tagSent := rfl
  rw [hbyte, LastRefusal.tagSent]
  refine ⟨fun h => ?_, fun tag hk ht => by rw [if_pos hk, ht]; rfl⟩
  split
  case isTrue hk => rw [h.resolve_left fun hn => hn hk]; rfl
  case isFalse => rfl

end

/-- Settles O21: each byte by its offset, and the three readings of a STATUS. -/
theorem statusBodyIsReadBackAsWritten : Obligations.StatusBodyIsReadBackAsWritten := by
  intro s hgroups _
  obtain ⟨hfresh, hhomed, hpaused, hoverflow, hencoder⟩ :=
    flags_bits s.queue.fresh s.seq.homed s.seq.paused s.stack.overflow s.encoderOn
  obtain ⟨hnoTag, htag⟩ := s.refusalTag_sent
  obtain ⟨p, hp, hposition, hadv, hepochs, hhalted⟩ := s.statusOf_statusBody hgroups
  refine ⟨s.statusBody_length hgroups, ?station, hfresh, hhomed, hpaused, hoverflow, hencoder, rfl, rfl,
    fun h => ?noneFinished, fun tag result h => ?finished, fun h => ?noneActive, fun a h => ?active, rfl,
    s.statusBody_position, s.statusBody_encoder, ?fault, ?kind, hnoTag, htag, ?reason, rfl,
    p, hp, hposition, hadv.trans s.advOf_statusBody, hepochs, hhalted⟩
  case station =>
    have hbyte : byteAt s.statusBody 0 = s.station.code := rfl
    rw [hbyte]
    cases s.station <;> rfl
  case noneFinished =>
    have htagByte : byteAt s.statusBody 4 = (s.seq.lastFinished.map (fun p => p.1)).getD 0 := rfl
    have hresultByte : byteAt s.statusBody 5 = codeOr0 Result.code (s.seq.lastFinished.map (fun p => p.2)) := rfl
    rw [htagByte, hresultByte, h]
    exact ⟨rfl, rfl⟩
  case finished =>
    have htagByte : byteAt s.statusBody 4 = (s.seq.lastFinished.map (fun p => p.1)).getD 0 := rfl
    have hresultByte : byteAt s.statusBody 5 = codeOr0 Result.code (s.seq.lastFinished.map (fun p => p.2)) := rfl
    rw [htagByte, hresultByte, h]
    refine ⟨rfl, ?_⟩
    cases result <;> rfl
  case noneActive =>
    have htagByte : byteAt s.statusBody 6 = s.activeTag.getD 0 := rfl
    have hkindByte : byteAt s.statusBody 7 = codeOr0 SegKind.code s.activeKind := rfl
    rw [htagByte, hkindByte, State.activeTag, State.activeKind, h]
    exact ⟨rfl, rfl⟩
  case active =>
    have htagByte : byteAt s.statusBody 6 = s.activeTag.getD 0 := rfl
    have hkindByte : byteAt s.statusBody 7 = codeOr0 SegKind.code s.activeKind := rfl
    rw [htagByte, hkindByte, s.activeTag_some a h, s.activeKind_some a h]
    refine ⟨rfl, ?_⟩
    rw [codeOr0]
    cases a.work.kind <;> rfl
  case fault =>
    have hbyte : byteAt s.statusBody 17 = codeOr0 (fun k => BitVec.ofNat 8 k.code) s.faults.current := rfl
    rw [hbyte]
    cases s.faults.current with
    | none => rfl
    | some k => cases k <;> rfl
  case kind =>
    have hbyte : byteAt s.statusBody 18 = codeOr0 MsgKind.code s.queue.refusal.kind := rfl
    rw [hbyte]
    cases s.queue.refusal.kind with
    | none => rfl
    | some k => cases k <;> rfl
  case reason =>
    have hbyte : byteAt s.statusBody 20 = codeOr0 Reason.code s.queue.refusal.reason := rfl
    rw [hbyte]
    cases s.queue.refusal.reason with
    | none => rfl
    | some r => cases r <;> rfl

end Sys2Proof.Machine

/-! ## Proofs: the own slot (O22) -/

namespace Sys2Proof.Machine

section

variable (s : State)

/-- The own entry of the Peer Table as the slot writes it (R173). -/
def State.ownEntry : PeerEntry := { s.peer s.own with
  presence := .present, miss := 0, status := statusOf s.statusBody }

/-- The state after a frame with a payload has been assembled (R173, R179). -/
def State.slotSent (payload : List Byte) : State :=
  { s with
    link := { s.link with sending := some (frameOf s.own payload), query := none }
    peers := s.peers.set s.own s.ownEntry }

/-- The STATUS message of the own frame. -/
def State.statusMessage : List Byte := messageBytes 0x10 255 s.statusBody

theorem State.slotPayload_of_noQuery (h : s.link.query = none) : s.slotPayload = s.statusMessage := by
  rw [State.slotPayload, State.reportMessage, h]
  exact List.append_nil _

theorem State.slotPayload_of_query (q : PendingQuery) (h : s.link.query = some q) :
    s.slotPayload = s.statusMessage ++
      messageBytes 0x11 (BitVec.ofNat 8 q.requester) (s.reportBody q.kind) := by
  rw [State.slotPayload, State.reportMessage, h]
  rfl

theorem State.sendSlot_eq : s.sendSlot = s.slotSent s.slotPayload := rfl

theorem exec_slotStart_sends (hj : s.link.state = .joined) (hp : s.link.slotPasses = false) :
    exec .slotStart s = .next s.slotBegins := congrArg Host.Outcome.next (if_pos ⟨hj, hp⟩)

theorem exec_slotStart_passes (h : s.link.state ≠ .joined ∨ s.link.slotPasses = true) :
    exec .slotStart s = .next s := by
  refine congrArg Host.Outcome.next (if_neg fun ⟨hj, hp⟩ => ?_)
  exact h.elim (fun hn => hn hj) fun ht => Bool.noConfusion (hp.symm.trans ht)

theorem exec_slotStart_status (hj : s.link.state = .joined) (hp : s.link.slotPasses = false)
    (hq : s.link.query = none) : exec .slotStart s = .next (s.slotSent s.statusMessage) := by
  rw [exec_slotStart_sends s hj hp, State.slotBegins, hq, s.sendSlot_eq, s.slotPayload_of_noQuery hq]

/-- With a pending query the report goes with the STATUS, and the counters go when it asks so. -/
theorem exec_slotStart_report (hj : s.link.state = .joined) (hp : s.link.slotPasses = false)
    (q : PendingQuery) (hq : s.link.query = some q) : exec .slotStart s = .next
      (let t := (s.slotSent (s.statusMessage ++
        messageBytes 0x11 (BitVec.ofNat 8 q.requester) (s.reportBody q.kind))).setOpenCount (s.openCount + 1)
      if q.clear = true then t.clearCounters else t) := by
  rw [exec_slotStart_sends s hj hp, State.slotBegins, hq, s.sendSlot_eq, s.slotPayload_of_query q hq]
  rfl

end

end Sys2Proof.Machine

/-! ## Proofs: the contents of a REPORT (O22) -/

namespace Sys2Proof.Machine

/-! ### Parts of a body -/

section

variable (bytes front part rest : List Byte) (o : Nat) (h : bytes = front ++ (part ++ rest))
  (hlen : front.length = o)

include h hlen

theorem byteAt_part (i : Nat) (hi : i < part.length) : byteAt bytes (o + i) = byteAt part i := by
  rw [byteAt, byteAt, h, List.getD_append_right _ _ _ _ (by omega), ← hlen, Nat.add_sub_cancel_left,
    List.getD_append _ _ _ _ hi]

theorem fieldNat_part (i k : Nat) (hk : i + k ≤ part.length) :
    fieldNat bytes (o + i) k = fieldNat part i k := by
  have hdrop : bytes.drop (o + i) = part.drop i ++ rest := by
    rw [h, ← hlen, List.drop_append, Nat.add_sub_cancel_left, List.drop_eq_nil_of_le (by omega),
      List.nil_append, List.drop_append_of_le_length (by omega)]
  rw [fieldNat, fieldNat, field, field, hdrop, List.take_append_of_le_length (by rw [List.length_drop]; omega)]

end

/-- Items of one length stand at its multiples. -/
theorem flatten_split {α : Type} (n : Nat) (ls : List (List α)) (hn : ∀ l ∈ ls, l.length = n) (i : Nat)
    (hi : i < ls.length) : ∃ front rest, ls.flatten = front ++ (ls[i] ++ rest) ∧ front.length = n * i := by
  induction ls generalizing i with
  | nil => cases hi
  | cons l ls ih =>
    have htail := fun m hm => hn m (List.mem_cons_of_mem l hm)
    cases i with
    | zero => exact ⟨[], ls.flatten, rfl, rfl⟩
    | succ i =>
      obtain ⟨front, rest, heq, hlen⟩ := ih htail i (Nat.lt_of_succ_lt_succ hi)
      refine ⟨l ++ front, rest, ?_, ?_⟩
      · rw [List.flatten_cons, heq, List.append_assoc]
        rfl
      · rw [List.length_append, hlen, hn l List.mem_cons_self, Nat.mul_succ, Nat.add_comm]

theorem flatten_length_of_all {α : Type} (n : Nat) (ls : List (List α)) (hn : ∀ l ∈ ls, l.length = n) :
    ls.flatten.length = n * ls.length := by
  rw [List.length_flatten, List.map_congr_left hn, List.map_const', List.sum_replicate, smul_eq_mul,
    Nat.mul_comm]

/-- A body of a head and items of one length, at one of the items. -/
theorem items_split {α : Type} (head : List Byte) (n : Nat) (xs : List α) (f : Nat → α → List Byte)
    (hn : ∀ i x, (f i x).length = n) (i : Nat) (hi : i < xs.length) :
    ∃ front rest, head ++ (xs.mapIdx f).flatten = front ++ (f i xs[i] ++ rest) ∧
      front.length = head.length + n * i := by
  have hall : ∀ l ∈ xs.mapIdx f, l.length = n := by
    intro l hl
    obtain ⟨j, hj, rfl⟩ := List.mem_mapIdx.1 hl
    exact hn j _
  obtain ⟨front, rest, heq, hlen⟩ := flatten_split n (xs.mapIdx f) hall i (by rwa [List.length_mapIdx])
  refine ⟨head ++ front, rest, ?_, by rw [List.length_append, hlen]⟩
  rw [heq, List.getElem_mapIdx, List.append_assoc]

theorem items_length {α : Type} (head : List Byte) (n : Nat) (xs : List α) (f : Nat → α → List Byte)
    (hn : ∀ i x, (f i x).length = n) : (head ++ (xs.mapIdx f).flatten).length = head.length + n * xs.length := by
  have hall : ∀ l ∈ xs.mapIdx f, l.length = n := by
    intro l hl
    obtain ⟨j, hj, rfl⟩ := List.mem_mapIdx.1 hl
    exact hn j _
  rw [List.length_append, flatten_length_of_all n _ hall, List.length_mapIdx]

/-! ### Packed bytes -/

/-- Four flags in a byte, from bit 0. -/
theorem fourFlags (a b c d : Bool) :
    let x : Byte := BitVec.ofNat 8 (a.toNat + 2 * b.toNat + 4 * c.toNat + 8 * d.toNat)
    x.getLsbD 0 = a ∧ x.getLsbD 1 = b ∧ x.getLsbD 2 = c ∧ x.getLsbD 3 = d ∧ x.toNat < 16 := by
  revert a b c d
  decide

/-- A two-bit code with two flags above it. -/
theorem codeAndFlags (o : Origin) (b d : Bool) :
    let x : Byte := o.code + BitVec.ofNat 8 (4 * b.toNat + 8 * d.toNat)
    x.toNat % 4 = (match o with | .preempt => 1 | .pause => 2 | .halt => 3) ∧ x.getLsbD 2 = b ∧
      x.getLsbD 3 = d ∧ x.toNat < 16 := by
  cases o <;> revert b d <;> decide

/-- A code below a multiple of `m`, in one byte. -/
theorem code_add_multiple (m n : Nat) (c : Byte) (x : Nat) (hc : c.toNat < m) (hx : x < n)
    (hm : m * n = 256) : (c + BitVec.ofNat 8 (m * x)).toNat % m = c.toNat ∧
      (c + BitVec.ofNat 8 (m * x)).toNat / m = x := by
  have hle : m * x + m ≤ m * n := by
    rw [← Nat.mul_succ]
    exact Nat.mul_le_mul_left m hx
  have hsum : (c + BitVec.ofNat 8 (m * x)).toNat = c.toNat + m * x := by
    rw [BitVec.toNat_add, BitVec.toNat_ofNat, Nat.mod_eq_of_lt (by omega : m * x < 2 ^ 8),
      Nat.mod_eq_of_lt (by omega)]
  rw [hsum, Nat.add_mul_mod_self_left, Nat.mod_eq_of_lt hc, Nat.add_mul_div_left _ _ (by omega),
    Nat.div_eq_of_lt hc, Nat.zero_add]
  exact ⟨rfl, rfl⟩

section

variable (s : State)

/-- The kind and the cycle number of a report (13.5). -/
theorem State.reportBody_head (k : QueryKind) : byteAt (s.reportBody k) 0 = k.code ∧
    fieldNat (s.reportBody k) 1 2 = s.link.cycle.toNat := ⟨rfl, leNat_bytes2 s.link.cycle⟩

/-! ### QUEUE (R187) -/

theorem State.armedAt_queueHead (e : QueueEntry) (es : List QueueEntry) (he : s.queue.entries = e :: es) :
    s.armedAt = some .queueHead ↔ s.station = .armed ∧ (s.stack.residuals = [] ∨ e.insert = true) := by
  have hcandidate : (s.candidate.map (fun c => c.1) = some .queueHead) ↔
      (s.stack.residuals = [] ∨ e.insert = true) := by
    rw [State.candidate, he]
    cases s.stack.residuals with
    | nil => simp
    | cons r rs => cases hi : e.insert <;> simp [hi]
  rw [State.armedAt, ← hcandidate]
  split
  case isTrue hs => simp [hs]
  case isFalse hs => simp [hs]

theorem State.armedAt_stackTop (hr : s.stack.residuals ≠ []) : s.armedAt = some .stackTop ↔
    s.station = .armed ∧ ∀ e, e ∈ s.queue.entries.head? → e.insert = false := by
  obtain ⟨r, rs, hrs⟩ := List.exists_cons_of_ne_nil hr
  have hcandidate : (s.candidate.map (fun c => c.1) = some .stackTop) ↔
      ∀ e, e ∈ s.queue.entries.head? → e.insert = false := by
    rw [State.candidate, hrs]
    cases s.queue.entries with
    | nil => simp
    | cons e es => cases hi : e.insert <;> simp [hi]
  rw [State.armedAt, ← hcandidate]
  split
  case isTrue hs => simp [hs]
  case isFalse hs => simp [hs]

/-- The first five bytes of a QUEUE report. -/
def State.queueReportHead : List Byte :=
  QueryKind.queue.code :: (bytes2 s.link.cycle ++
    [s.queue.expected, BitVec.ofNat 8 s.queue.entries.length])

theorem State.queueReport_eq : s.reportBody .queue = s.queueReportHead ++
    (s.queue.entries.mapIdx (fun i e =>
      e.listing (decide (i = 0) && decide (s.armedAt = some .queueHead)))).flatten := rfl

theorem State.queueReport_length : (s.reportBody .queue).length = 5 + 4 * s.queue.entries.length := by
  rw [s.queueReport_eq, items_length _ 4 _ _ fun _ _ => rfl]
  rfl

/-- One listing of a QUEUE report is read back. -/
theorem State.queueReport_entry (i : Nat) (hi : i < s.queue.entries.length) :
    byteAt (s.reportBody .queue) (5 + 4 * i) = s.queue.entries[i].tag ∧
    byteAt (s.reportBody .queue) (6 + 4 * i) = s.queue.entries[i].body.kind.code ∧
    byteAt (s.reportBody .queue) (7 + 4 * i) = BitVec.ofNat 8 s.queue.entries[i].group ∧
    (byteAt (s.reportBody .queue) (8 + 4 * i)).getLsbD 0 = s.queue.entries[i].insert ∧
    (byteAt (s.reportBody .queue) (8 + 4 * i)).getLsbD 1 = s.queue.entries[i].chain ∧
    (byteAt (s.reportBody .queue) (8 + 4 * i)).getLsbD 2 = s.queue.entries[i].bound ∧
    ((byteAt (s.reportBody .queue) (8 + 4 * i)).getLsbD 3 = true ↔
      i = 0 ∧ s.station = .armed ∧ (s.stack.residuals = [] ∨ s.queue.entries[i].insert = true)) ∧
    (byteAt (s.reportBody .queue) (8 + 4 * i)).toNat < 16 := by
  obtain ⟨front, rest, heq, hlen⟩ := items_split s.queueReportHead 4 s.queue.entries (fun i e =>
    e.listing (decide (i = 0) && decide (s.armedAt = some .queueHead))) (fun _ _ => rfl) i hi
  have hbyte : ∀ j, j < 4 → byteAt (s.reportBody .queue) (5 + 4 * i + j) =
      byteAt (s.queue.entries[i].listing (decide (i = 0) && decide (s.armedAt = some .queueHead))) j :=
    byteAt_part (s.reportBody .queue) front _ rest (5 + 4 * i) heq hlen
  have hflags := fourFlags s.queue.entries[i].insert s.queue.entries[i].chain s.queue.entries[i].bound
    (decide (i = 0) && decide (s.armedAt = some .queueHead))
  obtain ⟨hinsert, hchain, hbound, harmed, hsmall⟩ := hflags
  have hfourth : byteAt (s.reportBody .queue) (8 + 4 * i) = BitVec.ofNat 8 (s.queue.entries[i].insert.toNat +
      2 * s.queue.entries[i].chain.toNat + 4 * s.queue.entries[i].bound.toNat +
      8 * (decide (i = 0) && decide (s.armedAt = some .queueHead)).toNat) := by
    rw [show 8 + 4 * i = 5 + 4 * i + 3 by omega, hbyte 3 (by decide)]
    rfl
  have hfirst : i = 0 → (s.armedAt = some .queueHead ↔
      s.station = .armed ∧ (s.stack.residuals = [] ∨ s.queue.entries[i].insert = true)) := by
    rintro rfl
    exact s.armedAt_queueHead _ _ (List.drop_eq_getElem_cons hi)
  rw [hfourth]
  refine ⟨hbyte 0 (by decide), ?_, ?_, hinsert, hchain, hbound, ?_, hsmall⟩
  · rw [show 6 + 4 * i = 5 + 4 * i + 1 by omega, hbyte 1 (by decide)]
    rfl
  · rw [show 7 + 4 * i = 5 + 4 * i + 2 by omega, hbyte 2 (by decide)]
    rfl
  · rw [harmed, Bool.and_eq_true, decide_eq_true_eq, decide_eq_true_eq]
    exact and_congr_right hfirst

/-! ### STACK (R187) -/

/-- The first five bytes of a STACK report. -/
def State.stackReportHead : List Byte :=
  QueryKind.stack.code :: (bytes2 s.link.cycle ++
    [BitVec.ofNat 8 s.stack.residuals.length, BitVec.ofNat 8 s.stack.overflow.toNat])

theorem Residual.listing_length (r : Residual) (armed : Bool) : (r.listing armed).length = 9 := by
  unfold Residual.listing Remaining.listing
  cases r.remaining <;> rfl

theorem State.stackReport_eq : s.reportBody .stack = s.stackReportHead ++
    (s.stack.residuals.mapIdx (fun i r =>
      r.listing (decide (i = 0) && decide (s.armedAt = some .stackTop)))).flatten := rfl

theorem State.stackReport_length : (s.reportBody .stack).length = 5 + 9 * s.stack.residuals.length := by
  rw [s.stackReport_eq, items_length _ 9 _ _ fun _ r => r.listing_length _]
  rfl

theorem Remaining.position_listing (r : Remaining) : BitVec.ofNat 32 (leNat r.listing) = match r with
    | .move n => BitVec.ofInt 32 n | .goto p => p | .dwell n => BitVec.ofNat 32 n := by
  cases r with
  | move n => exact ofNat_leNat_bytes4 _
  | goto p => exact ofNat_leNat_bytes4 _
  | dwell n =>
    have hread : leNat (Remaining.dwell n).listing = n % 256 ^ 4 := leNat_leBytes 4 n
    refine BitVec.eq_of_toNat_eq ?_
    rw [hread, BitVec.toNat_ofNat, BitVec.toNat_ofNat]
    exact Nat.mod_mod_of_dvd n (dvd_refl _)

/-- One listing of a STACK report is read back. -/
theorem State.stackReport_entry (i : Nat) (hi : i < s.stack.residuals.length) :
    byteAt (s.reportBody .stack) (5 + 9 * i) = s.stack.residuals[i].tag ∧
    byteAt (s.reportBody .stack) (6 + 9 * i) = s.stack.residuals[i].remaining.kind.code ∧
    byteAt (s.reportBody .stack) (7 + 9 * i) = BitVec.ofNat 8 s.stack.residuals[i].group ∧
    (byteAt (s.reportBody .stack) (8 + 9 * i)).toNat % 4 =
      (match s.stack.residuals[i].origin with | .preempt => 1 | .pause => 2 | .halt => 3) ∧
    (byteAt (s.reportBody .stack) (8 + 9 * i)).getLsbD 2 = s.stack.residuals[i].barrier.isSome ∧
    ((byteAt (s.reportBody .stack) (8 + 9 * i)).getLsbD 3 = true ↔ i = 0 ∧ s.station = .armed ∧
      ∀ e, e ∈ s.queue.entries.head? → e.insert = false) ∧
    (byteAt (s.reportBody .stack) (8 + 9 * i)).toNat < 16 ∧
    byteAt (s.reportBody .stack) (9 + 9 * i) = (s.stack.residuals[i].barrier.map (fun b => b.number)).getD 0 ∧
    position32 (s.reportBody .stack) (10 + 9 * i) = BitVec.ofNat 32 (leNat s.stack.residuals[i].remaining.listing) := by
  obtain ⟨front, rest, heq, hlen⟩ := items_split s.stackReportHead 9 s.stack.residuals (fun i r =>
    r.listing (decide (i = 0) && decide (s.armedAt = some .stackTop))) (fun _ r => r.listing_length _) i hi
  generalize hr : s.stack.residuals[i] = r at heq ⊢
  have hbyte : ∀ j, j < 9 → byteAt (s.reportBody .stack) (5 + 9 * i + j) =
      byteAt (r.listing (decide (i = 0) && decide (s.armedAt = some .stackTop))) j := fun j hj =>
    byteAt_part (s.reportBody .stack) front _ rest (5 + 9 * i) heq hlen j (by rwa [Residual.listing_length])
  have hpart := fieldNat_part (s.reportBody .stack) front _ rest (5 + 9 * i) heq hlen 5 4
    (by rw [Residual.listing_length])
  obtain ⟨hcode, hbarrier, harmed, hsmall⟩ := codeAndFlags r.origin r.barrier.isSome
    (decide (i = 0) && decide (s.armedAt = some .stackTop))
  have hfourth : byteAt (s.reportBody .stack) (8 + 9 * i) = r.origin.code +
      BitVec.ofNat 8 (4 * r.barrier.isSome.toNat +
        8 * (decide (i = 0) && decide (s.armedAt = some .stackTop)).toNat) := by
    rw [show 8 + 9 * i = 5 + 9 * i + 3 by omega, hbyte 3 (by decide)]
    rfl
  have htop := s.armedAt_stackTop (List.ne_nil_of_length_pos (by omega))
  rw [hfourth]
  refine ⟨hbyte 0 (by decide), ?_, ?_, hcode, hbarrier, ?_, hsmall, ?_, ?_⟩
  · rw [show 6 + 9 * i = 5 + 9 * i + 1 by omega, hbyte 1 (by decide)]
    rfl
  · rw [show 7 + 9 * i = 5 + 9 * i + 2 by omega, hbyte 2 (by decide)]
    rfl
  · rw [harmed, Bool.and_eq_true, decide_eq_true_eq, decide_eq_true_eq, htop]
  · rw [show 9 + 9 * i = 5 + 9 * i + 4 by omega, hbyte 4 (by decide)]
    rfl
  · have hfield : fieldNat (r.listing (decide (i = 0) && decide (s.armedAt = some .stackTop))) 5 4 =
        leNat r.remaining.listing := by
      unfold Residual.listing Remaining.listing
      cases r.remaining <;> rfl
    rw [position32, show 10 + 9 * i = 5 + 9 * i + 5 by omega, hpart, hfield]

/-! ### GROUPS (R188) -/

/-- The first seven bytes of a GROUPS report. -/
def State.groupsReportHead : List Byte :=
  QueryKind.groups.code :: (bytes2 s.link.cycle ++
    (s.haltedMask ++ leBytes 2 (maskBits (s.groups.map (fun g => g.synchronised)))))

theorem State.groupsReport_eq : s.reportBody .groups = s.groupsReportHead ++
    (s.groups.mapIdx (fun i g => g.listing (s.openByte (8 + 4 * i)))).flatten := rfl

theorem State.group_succ (i : Nat) : s.group (i + 1) = s.groups.getD i .reset := rfl

theorem State.groupsReport_length (h : s.groups.length = 15) : (s.reportBody .groups).length = 67 := by
  rw [s.groupsReport_eq, items_length _ 4 _ _ fun _ _ => rfl, h]
  rfl

/-- The two masks of a GROUPS report. -/
theorem State.groupsReport_masks (h : s.groups.length = 15) (i : Nat) (hi : i < 15) :
    (fieldNat (s.reportBody .groups) 3 2).testBit i = decide ((s.group (i + 1)).condition = .halted) ∧
    (fieldNat (s.reportBody .groups) 5 2).testBit i = (s.group (i + 1)).synchronised := by
  have hhalted : fieldNat (s.reportBody .groups) 3 2 = leNat s.haltedMask := rfl
  have hsync : fieldNat (s.reportBody .groups) 5 2 =
      leNat (leBytes 2 (maskBits (s.groups.map (fun g => g.synchronised)))) := rfl
  rw [hhalted, hsync, s.testBit_haltedMask h i hi, testBit_leNat_mask _ i (by omega),
    getD_map_group (fun g => g.synchronised) false _ i (by omega), s.group_succ]
  exact ⟨rfl, rfl⟩

/-- One entry of a GROUPS report is read back. -/
theorem State.groupsReport_entry (h : s.groups.length = 15) (i : Nat) (hi : i < 15) :
    byteAt (s.reportBody .groups) (7 + 4 * i) = (s.group (i + 1)).epoch ∧
    (byteAt (s.reportBody .groups) (8 + 4 * i)).toNat % 8 = (s.group (i + 1)).cause.code.toNat ∧
    (∀ o, (s.group (i + 1)).originator = some o →
      (byteAt (s.reportBody .groups) (8 + 4 * i)).toNat / 8 = o % 32) ∧
    fieldNat (s.reportBody .groups) (9 + 4 * i) 2 = (s.group (i + 1)).changedAt.toNat := by
  obtain ⟨front, rest, heq, hlen⟩ := items_split s.groupsReportHead 4 s.groups
    (fun i g => g.listing (s.openByte (8 + 4 * i))) (fun _ _ => rfl) i (by omega)
  have hgroup : s.groups[i]'(by omega) = s.group (i + 1) := by
    rw [s.group_succ, List.getD_eq_getElem _ _ (by omega)]
  rw [hgroup] at heq
  generalize s.group (i + 1) = x at heq ⊢
  have hbyte : ∀ j, j < 4 → byteAt (s.reportBody .groups) (7 + 4 * i + j) =
      byteAt (x.listing (s.openByte (8 + 4 * i))) j :=
    byteAt_part (s.reportBody .groups) front _ rest (7 + 4 * i) heq hlen
  have hpart := fieldNat_part (s.reportBody .groups) front _ rest (7 + 4 * i) heq hlen 2 2 (Nat.le_refl 4)
  have hcause : x.cause.code.toNat < 8 := by cases x.cause <;> decide
  have hsecond : byteAt (s.reportBody .groups) (8 + 4 * i) = x.cause.code +
      BitVec.ofNat 8 (8 * (x.originator.getD (s.openByte (8 + 4 * i)).toNat % 32)) := by
    have hoffset : 8 + 4 * i = 7 + 4 * i + 1 := by omega
    exact (congrArg (byteAt _) hoffset).trans (hbyte 1 (by decide))
  obtain ⟨hmod, hdiv⟩ := code_add_multiple 8 32 x.cause.code
    (x.originator.getD (s.openByte (8 + 4 * i)).toNat % 32) hcause (Nat.mod_lt _ (by decide)) rfl
  rw [hsecond]
  refine ⟨hbyte 0 (by decide), hmod, fun o ho => ?_, ?_⟩
  · rw [hdiv, ho, Option.getD_some]
  · rw [show 9 + 4 * i = 7 + 4 * i + 2 by omega, hpart]
    exact leNat_bytes2 x.changedAt

/-! ### PEERS (R188) -/

/-- One entry of a PEERS report is read back. -/
theorem State.peersReport_entry (h : s.peers.length = 32) (a : Nat) (ha : a < 32) :
    (byteAt (s.reportBody .peers) (3 + a)).toNat % 4 = (s.peer a).presence.code.toNat ∧
    (byteAt (s.reportBody .peers) (3 + a)).toNat / 4 = (s.peer a).miss % 16 := by
  have heq : s.reportBody .peers = (QueryKind.peers.code :: bytes2 s.link.cycle) ++
      (s.peersReport ++ []) := (congrArg _ (List.append_nil _)).symm
  have hpeer : s.peer a = s.peers[a]'(by omega) := List.getD_eq_getElem _ _ (by omega)
  have hlen : s.peersReport.length = 32 := by rw [State.peersReport, List.length_map, h]
  have hbyte : byteAt (s.reportBody .peers) (3 + a) =
      (s.peer a).presence.code + BitVec.ofNat 8 (4 * ((s.peer a).miss % 16)) := by
    rw [byteAt_part _ _ s.peersReport [] 3 heq rfl a (by omega), byteAt,
      List.getD_eq_getElem _ _ (by omega), hpeer]
    exact List.getElem_map _
  have hcode : (s.peer a).presence.code.toNat < 4 := by cases (s.peer a).presence <;> decide
  have hmiss : (s.peer a).miss % 16 < 64 := by omega
  rw [hbyte]
  exact code_add_multiple 4 64 _ _ hcode hmiss rfl

theorem State.peersReport_length (h : s.peers.length = 32) : (s.reportBody .peers).length = 35 := by
  have hlen : (s.reportBody .peers).length = 3 + s.peersReport.length := by
    rw [State.reportBody, List.length_append]
    rfl
  rw [hlen, State.peersReport, List.length_map, h]

end

end Sys2Proof.Machine

/-! ## Proofs: the fault and counter reports, and the own slot as a whole (O22) -/

namespace Sys2Proof.Machine

/-! ### FAULTS (R188) -/

/-- The codes of the fault kinds run from 1 to 16, each its own (13.6). -/
theorem FaultKind.code_range (k : FaultKind) : 1 ≤ k.code ∧ k.code ≤ 16 := by cases k <;> decide

theorem FaultKind.code_injective (j k : FaultKind) (h : j.code = k.code) : j = k := by
  revert h
  cases j <;> cases k <;> simp [FaultKind.code]

theorem FaultKind.code_toNat (k : FaultKind) : (BitVec.ofNat 8 k.code).toNat = k.code := by
  have hrange := k.code_range
  rw [BitVec.toNat_ofNat, Nat.mod_eq_of_lt (by omega)]

/-- The recorded-kinds mask, by the code of a kind. -/
theorem FaultLog.testBit_kindsMask (f : FaultLog) (k : FaultKind) :
    (leNat (leBytes 2 f.kindsMask)).testBit (k.code - 1) = decide (k ∈ f.kinds) := by
  obtain ⟨h1, h16⟩ := k.code_range
  have hcode : k.code - 1 + 1 = k.code := by omega
  have hmember : f.kinds.any (fun j => decide (j.code = k.code)) = decide (k ∈ f.kinds) := by
    rw [Bool.eq_iff_iff, List.any_eq_true, decide_eq_true_eq]
    constructor
    · rintro ⟨j, hj, hsame⟩
      exact FaultKind.code_injective j k (of_decide_eq_true hsame) ▸ hj
    · exact fun hk => ⟨k, hk, decide_eq_true rfl⟩
  rw [FaultLog.kindsMask, testBit_leNat_mask _ _ (by omega), List.getD_eq_getElem _ _ (by simp; omega),
    List.getElem_map, List.getElem_range, hcode, hmember]

section

variable (s : State)

theorem State.faultListing_length (p : Nat) (o : Option FaultEntry) : (s.faultListing p o).length = 9 := by
  cases o <;> rfl

/-- One listing of a FAULTS report at an offset of a body. -/
theorem State.faultListing_read (bytes front rest : List Byte) (p o : Nat) (x : Option FaultEntry)
    (h : bytes = front ++ (s.faultListing p x ++ rest)) (hlen : front.length = o) :
    (x = none → byteAt bytes o = 0 ∧ byteAt bytes (o + 1) = 0) ∧
    (∀ e, x = some e → (byteAt bytes o).toNat = e.kind.code ∧
      byteAt bytes (o + 1) = (if e.tag.isSome = true then 1 else 0) ∧
      (∀ tag, e.tag = some tag → byteAt bytes (o + 2) = tag) ∧
      fieldNat bytes (o + 3) 2 = e.cycle.toNat ∧ position32 bytes (o + 5) = e.position) := by
  have hbyte : ∀ j, j < 9 → byteAt bytes (o + j) = byteAt (s.faultListing p x) j := fun j hj =>
    byteAt_part bytes front _ rest o h hlen j (by rwa [s.faultListing_length])
  have hfield : ∀ j k, j + k ≤ 9 → fieldNat bytes (o + j) k = fieldNat (s.faultListing p x) j k :=
    fun j k hk => fieldNat_part bytes front _ rest o h hlen j k (by rwa [s.faultListing_length])
  have hzero := hbyte 0 (by decide)
  rw [Nat.add_zero] at hzero
  rw [hzero, hbyte 1 (by decide), hbyte 2 (by decide), hfield 3 2 (by decide), position32,
    hfield 5 4 (by decide)]
  refine ⟨?_, ?_⟩
  · rintro rfl
    exact ⟨rfl, rfl⟩
  · rintro e rfl
    refine ⟨e.kind.code_toNat, ?_, fun tag ht => ?_, leNat_bytes2 e.cycle, ofNat_leNat_bytes4 e.position⟩
    · have hsecond : byteAt (s.faultListing p (some e)) 1 = BitVec.ofNat 8 e.tag.isSome.toNat := rfl
      rw [hsecond]
      cases e.tag <;> rfl
    · have hthird : byteAt (s.faultListing p (some e)) 2 = e.tag.getD (s.openByte (p + 2)) := rfl
      rw [hthird, ht]
      rfl

/-- The first seven bytes of a FAULTS report. -/
def State.faultsReportHead : List Byte :=
  QueryKind.faults.code :: (bytes2 s.link.cycle ++
    ([codeOr0 (fun k => BitVec.ofNat 8 k.code) s.faults.current, BitVec.ofNat 8 s.faults.count] ++
      leBytes 2 s.faults.kindsMask))

theorem State.faultsReport_eq : s.reportBody .faults =
    s.faultsReportHead ++ (s.faultListing 7 s.faults.first ++ s.faultListing 16 s.faults.last) := by
  rw [← List.append_assoc]
  rfl

theorem State.faultsReport_length : (s.reportBody .faults).length = 25 := by
  rw [s.faultsReport_eq, List.length_append, List.length_append, s.faultListing_length, s.faultListing_length]
  rfl

theorem State.faultsReport_first (e : FaultEntry) (h : s.faults.first = some e) :
    (byteAt (s.reportBody .faults) 7).toNat = e.kind.code ∧
    byteAt (s.reportBody .faults) 8 = (if e.tag.isSome = true then 1 else 0) ∧
    (∀ tag, e.tag = some tag → byteAt (s.reportBody .faults) 9 = tag) ∧
    fieldNat (s.reportBody .faults) 10 2 = e.cycle.toNat ∧
    position32 (s.reportBody .faults) 12 = e.position :=
  (s.faultListing_read _ _ _ 7 7 s.faults.first s.faultsReport_eq rfl).2 e h

theorem State.faultsReport_noFirst (h : s.faults.first = none) :
    byteAt (s.reportBody .faults) 7 = 0 ∧ byteAt (s.reportBody .faults) 8 = 0 :=
  (s.faultListing_read _ _ _ 7 7 s.faults.first s.faultsReport_eq rfl).1 h

/-- The second listing stands behind the first. -/
theorem State.faultsReport_split : s.reportBody .faults =
    (s.faultsReportHead ++ s.faultListing 7 s.faults.first) ++ (s.faultListing 16 s.faults.last ++ []) := by
  rw [s.faultsReport_eq, List.append_nil, List.append_assoc]

theorem State.faultsReport_front :
    (s.faultsReportHead ++ s.faultListing 7 s.faults.first).length = 16 := by
  rw [List.length_append, s.faultListing_length]
  rfl

theorem State.faultsReport_last (e : FaultEntry) (h : s.faults.last = some e) :
    (byteAt (s.reportBody .faults) 16).toNat = e.kind.code ∧
    byteAt (s.reportBody .faults) 17 = (if e.tag.isSome = true then 1 else 0) ∧
    (∀ tag, e.tag = some tag → byteAt (s.reportBody .faults) 18 = tag) ∧
    fieldNat (s.reportBody .faults) 19 2 = e.cycle.toNat ∧
    position32 (s.reportBody .faults) 21 = e.position :=
  (s.faultListing_read _ _ _ 16 16 s.faults.last s.faultsReport_split s.faultsReport_front).2 e h

theorem State.faultsReport_noLast (h : s.faults.last = none) :
    byteAt (s.reportBody .faults) 16 = 0 ∧ byteAt (s.reportBody .faults) 17 = 0 :=
  (s.faultListing_read _ _ _ 16 16 s.faults.last s.faultsReport_split s.faultsReport_front).1 h

theorem State.faultsReport_current : (byteAt (s.reportBody .faults) 3).toNat = match s.faults.current with
    | none => 0
    | some k => k.code := by
  have hbyte : byteAt (s.reportBody .faults) 3 =
    codeOr0 (fun k => BitVec.ofNat 8 k.code) s.faults.current := rfl
  rw [hbyte]
  cases s.faults.current with
  | none => rfl
  | some k => exact k.code_toNat

/-! ### COUNTERS (R189) -/

theorem State.countersReport_read (h : s.countersOk) :
    (s.reportBody .counters).length = 11 ∧ byteAt (s.reportBody .counters) 3 = s.queue.refusal.count ∧
    (byteAt (s.reportBody .counters) 4).toNat = s.seq.chainBreaks ∧
    (byteAt (s.reportBody .counters) 5).toNat = s.stack.overflowCount ∧
    fieldNat (s.reportBody .counters) 6 2 = s.link.crcErrors ∧
    (byteAt (s.reportBody .counters) 8).toNat = s.link.slotViolations ∧
    (byteAt (s.reportBody .counters) 9).toNat = s.link.cycleSlips ∧
    (byteAt (s.reportBody .counters) 10).toNat = s.link.droppedQueries := by
  obtain ⟨hcrc, hslot, hslips, hdropped, -, hbreaks, hoverflow, -, -⟩ := h
  have hsmall : ∀ n, n ≤ 255 → (BitVec.ofNat 8 n).toNat = n := fun n hn => by
    rw [BitVec.toNat_ofNat, Nat.mod_eq_of_lt (by omega)]
  have hfield : fieldNat (s.reportBody .counters) 6 2 = leNat (leBytes 2 s.link.crcErrors) := rfl
  refine ⟨rfl, rfl, hsmall _ hbreaks, hsmall _ hoverflow, ?_, hsmall _ hslot, hsmall _ hslips,
    hsmall _ hdropped⟩
  rw [hfield, leNat_leBytes, Nat.mod_eq_of_lt (by omega)]

end

/-- Settles O22: what the slot sends, and the contents of each kind of report. -/
theorem ownSlotSendsStatusAndReport : Obligations.OwnSlotSendsStatusAndReport := by
  intro s
  refine ⟨fun hj hp => ?sends, exec_slotStart_passes s, fun hsizes hqueue hstack => ?reports⟩
  case sends =>
    intro own status
    refine ⟨exec_slotStart_status s hj hp, fun q hq => ?_⟩
    rw [exec_slotStart_report s hj hp q hq]
    dsimp only
    split
    case isTrue hclear =>
      exact ⟨_, rfl, rfl, rfl, rfl, rfl, rfl, hj, rfl, rfl, rfl, rfl, rfl, rfl, rfl, rfl, rfl, rfl, rfl, rfl,
        rfl, fun _ => ⟨rfl, rfl, rfl, rfl, rfl, rfl, rfl⟩,
        fun hkeep => Bool.noConfusion (hkeep.symm.trans hclear)⟩
    case isFalse hkeep =>
      exact ⟨_, rfl, rfl, rfl, rfl, rfl, rfl, hj, rfl, rfl, rfl, rfl, rfl, rfl, rfl, rfl, rfl, rfl, rfl, rfl,
        rfl, fun hclear => absurd hclear hkeep, fun _ => ⟨rfl, rfl, rfl, rfl, rfl, rfl, rfl⟩⟩
  case reports =>
    obtain ⟨hpeers, hgroups⟩ := hsizes
    refine ⟨fun k => ?_, ?queue, ?stack, ?groups, ?peers, ?faults, fun hc => s.countersReport_read hc⟩
    · obtain ⟨hkind, hcycle⟩ := s.reportBody_head k
      refine ⟨hkind.trans ?_, hcycle⟩
      cases k <;> rfl
    case queue =>
      refine ⟨s.queueReport_length, rfl, ?_, fun i hi => ⟨s.queue.entries[i], List.getElem?_eq_getElem hi, ?_⟩⟩
      · have hbyte : byteAt (s.reportBody .queue) 4 = BitVec.ofNat 8 s.queue.entries.length := rfl
        rw [hbyte, BitVec.toNat_ofNat, Nat.mod_eq_of_lt (by omega)]
      · obtain ⟨htag, hkind, hrest⟩ := s.queueReport_entry i hi
        refine ⟨htag, hkind.trans ?_, hrest⟩
        cases s.queue.entries[i].body.kind <;> rfl
    case stack =>
      refine ⟨s.stackReport_length, ?_, ?_, fun i hi =>
        ⟨s.stack.residuals[i], List.getElem?_eq_getElem hi, ?_⟩⟩
      · have hbyte : byteAt (s.reportBody .stack) 3 = BitVec.ofNat 8 s.stack.residuals.length := rfl
        rw [hbyte, BitVec.toNat_ofNat, Nat.mod_eq_of_lt (by omega)]
      · have hbyte : byteAt (s.reportBody .stack) 4 = BitVec.ofNat 8 s.stack.overflow.toNat := rfl
        rw [hbyte]
        cases s.stack.overflow <;> rfl
      · obtain ⟨htag, hkind, hgroup, horigin, hbarrier, harmed, hsmall, hnumber, hposition⟩ :=
          s.stackReport_entry i hi
        refine ⟨htag, hkind.trans ?_, hgroup, horigin, hbarrier, harmed, hsmall, hnumber.trans ?_,
          hposition.trans (Remaining.position_listing _)⟩
        · cases s.stack.residuals[i].remaining <;> rfl
        · cases s.stack.residuals[i].barrier <;> rfl
    case groups =>
      refine ⟨s.groupsReport_length hgroups, fun i hi => ?_⟩
      obtain ⟨hhalted, hsync⟩ := s.groupsReport_masks hgroups i hi
      obtain ⟨hepoch, hcause, horiginator, hchanged⟩ := s.groupsReport_entry hgroups i hi
      refine ⟨hhalted, hsync, hepoch, hcause.trans ?_, horiginator, hchanged⟩
      cases (s.group (i + 1)).cause <;> rfl
    case peers =>
      refine ⟨s.peersReport_length hpeers, fun a ha => ?_⟩
      obtain ⟨hpresence, hmiss⟩ := s.peersReport_entry hpeers a ha
      refine ⟨hpresence.trans ?_, hmiss⟩
      cases (s.peer a).presence <;> rfl
    case faults =>
      exact ⟨s.faultsReport_length, s.faultsReport_current, rfl, fun k => s.faults.testBit_kindsMask k,
        s.faultsReport_noFirst, s.faultsReport_first, s.faultsReport_noLast, s.faultsReport_last⟩

end Sys2Proof.Machine

/-! ## Proofs: the start of a formed record from standstill (O52) -/

namespace Sys2Proof.Machine

theorem SegQueue.unbound_eq_self (q : SegQueue) (h : ∀ e ∈ q.entries, e.bound = false) : q.unbound = q := by
  have hentries : q.entries.map (fun e => { e with bound := false }) = q.entries := by
    refine (List.map_congr_left fun e he => ?_).trans (List.map_id _)
    have hkept := h e he
    obtain ⟨tag, insert, chain, group, profile, barrier, body, bound⟩ := e
    obtain rfl : bound = false := hkept
    rfl
  rw [SegQueue.unbound, hentries]

/-- The active record of a work that has just been formed (R33). -/
def Work.formed (w : Work) : Active := ⟨w, none, false, false, none, none⟩

/-- A record has been formed and the generator stands still (R33, R54). -/
structure State.Starting (s : State) (w : Work) : Prop where
  station : s.station = .running
  active : s.seq.active = some w.formed
  phase : s.gen.phase = .standstill
  run : s.gen.run = none
  unbound : s.queue.unbound = s.queue
  window : s.cfg.followingWindow = 0

/-- The generator once the first step of a run has been emitted and the next rate fixed (R57, R60). -/
def Gen.begun (g : Gen) (c : Settings) (d : Side) (p : Profile) (r : Run) : Gen :=
  g.stepped c d (if p.fs = p.ft then .cruising else .accelerating) p.fs r

/-- A counted run of which the first step has been emitted (R60). -/
def Run.countedBegun (p : Profile) (n : Nat) : Run :=
  ⟨.counted, some n, 1, p, p.fs, p.fs, 1, false,
    if p.fs = p.ft then p.ft else min p.ft (Nat.sqrt (p.fs * p.fs + 2 * p.a))⟩

section

variable (g : Gen) (r : Run) (p : Profile) (hprofile : r.profile = p) (hnext : r.nextRate = p.fs)
  (hp : g.phase = .accelerating ∨ (g.phase = .cruising ∧ p.fs = p.ft))

include hprofile hnext hp

/-- The phase after the first step from the start rate (R60). -/
theorem Gen.emitted_first_phase :
    (g.emitted r).phase = if p.fs = p.ft then .cruising else .accelerating := by
  have hphase : (g.emitted r).phase =
      if g.phase = .accelerating ∧ r.nextRate = r.profile.ft then .cruising else g.phase := rfl
  rw [hphase, hnext, hprofile]
  rcases hp with h | ⟨h, hf⟩
  · simp [h]
  · rw [if_neg (by simp [h]), if_pos hf, h]

/-- The rate of the second step of a ramp from the start rate (R60, R61). -/
theorem Gen.emitted_first_schedule (hbase : r.baseRate = p.fs) (hsteps : r.baseSteps = 0)
    (hd : r.kind ≠ .counted ∨ brakingDistance p.fs r.endRate p.d < r.stepped.left) :
    (g.emitted r).schedule = { g with
      phase := if p.fs = p.ft then .cruising else .accelerating
      rate := p.fs, position := stepFrom g.position g.dir
      run := some { r with
        emitted := r.emitted + 1, baseSteps := 1
        nextRate := if p.fs = p.ft then p.ft else min p.ft (Nat.sqrt (p.fs * p.fs + 2 * p.a)) } } := by
  have hphase := g.emitted_first_phase r p hprofile hnext hp
  have hgoing : (g.emitted r).phase = .accelerating ∨ (g.emitted r).phase = .cruising := by
    rw [hphase]
    split
    · exact .inr rfl
    · exact .inl rfl
  have hcruises : (g.emitted r).phase = .cruising ↔ p.fs = p.ft := by
    rw [hphase]
    split
    · exact iff_of_true rfl ‹_›
    · exact iff_of_false (by simp) ‹_›
  have hdue : r.stepped.kind ≠ .counted ∨
      brakingDistance (g.emitted r).rate r.stepped.endRate r.stepped.profile.d < r.stepped.left := by
    have hrate : (g.emitted r).rate = p.fs := hnext
    have hd' : r.stepped.profile.d = p.d := congrArg Profile.d hprofile
    rw [hrate, hd']
    exact hd
  have hfirst : (if g.phase = .accelerating ∧ p.fs = p.ft then .cruising else g.phase) =
      if p.fs = p.ft then GenPhase.cruising else .accelerating := by
    rw [← hphase, ← hnext, ← hprofile]
    rfl
  rw [(g.emitted r).schedule_goesUp r.stepped rfl hgoing hdue]
  simp only [hcruises]
  simp only [Gen.emitted, Run.stepped, hnext, hprofile, hbase, hsteps, hfirst, Nat.zero_add, Nat.mul_one]

end

section

variable {s : State} {w : Work} (h : s.Starting w)

include h

/-- A fault that ends a record at its start ends it at once (R34, R49). -/
theorem State.Starting.faults (k : FaultKind) : s.recordFault k (some w.tag) = { s with
    faults := s.faults.record ⟨k, s.link.cycle, some w.tag, s.gen.position⟩
    groups := (s.raiseInvolved .fault s.own).groups
    seq := { s.seq.ended .faulted w.tag .faulted with homed := s.homedAfter k }
    gen := s.gen.ceased, homing := .reset, follow := .reset
    encoder := { s.encoder with settle := none }, barrier := none, drive := s.pulsed k } := by
  have hstands := s.gen.stopsAtOnce_of_standstill h.phase
  rw [s.recordFault_endsRunning k (some w.tag) w.formed h.active h.station (.inr (.inr hstands)), h.unbound]
  rfl

/-- The first step of a counted run, short of its last (R57, R60). -/
theorem State.Starting.counts (hk : w.kind = .move ∨ w.kind = .goto) (hc : w.chain = false)
    (hn : 2 ≤ (s.distance w).natAbs) : s.startCounted w = s.setGen
      (s.gen.begun s.cfg (sideOf (s.distance w)) w.profile (.countedBegun w.profile (s.distance w).natAbs)) := by
  generalize hm : s.distance w = m at hn ⊢
  have h0 : m ≠ 0 := by omega
  generalize hr : Run.counted m.natAbs w.profile w.profile.fs false = r
  generalize hg : s.gen.orderCounted s.cfg m.natAbs (sideOf m) w.profile w.profile.fs false = g
  have hgr : g.run = some r := by rw [← hg, ← hr]; rfl
  have hordered : s.orderRun w m w.profile.fs = s.setGen g := by
    rw [State.orderRun, hc, hg]
    rfl
  have hactive : (s.setGen g).seq.active = some w.formed := h.active
  have hemit := State.emitStep_counted (s.setGen g) w.formed r hactive hk hgr
    (State.errorBeyond_of_noWindow _ h.window)
  have hended : r.stepped.ended = false := by
    rw [Run.stepped_ended r m.natAbs (by rw [← hr]; rfl), ← hr]
    exact decide_eq_false (by simp only [Run.counted]; omega)
  have hphase : g.phase = .accelerating ∨ (g.phase = .cruising ∧ w.profile.fs = w.profile.ft) := by
    rw [← hg, Gen.orderCounted]
    by_cases hf : w.profile.fs = w.profile.ft
    · exact .inr ⟨if_pos hf, hf⟩
    · exact .inl (if_neg hf)
  have hafter := State.afterStep_goesOn ((s.setGen g).setGen (g.emitted r)) r.stepped rfl hended
    (fun hb => absurd ((g.emitted_first_phase r w.profile (by rw [← hr]; rfl) (by rw [← hr]; rfl) hphase).symm.trans
      hb) (by split <;> simp)) (by rw [← hr]; rfl)
  have hdistance : brakingDistance w.profile.fs r.endRate w.profile.d < r.stepped.left := by
    have hzero : brakingDistance w.profile.fs r.endRate w.profile.d = 0 := by
      rw [← hr]
      exact if_neg (Nat.lt_irrefl _)
    rw [hzero, Run.stepped_left r m.natAbs (by rw [← hr]; rfl), ← hr]
    simp only [Run.counted]
    omega
  have hnext : (g.emitted r).schedule =
      s.gen.begun s.cfg (sideOf m) w.profile (.countedBegun w.profile m.natAbs) := by
    rw [g.emitted_first_schedule r w.profile (by rw [← hr]; rfl) (by rw [← hr]; rfl) hphase (by rw [← hr]; rfl)
      (by rw [← hr]; rfl) (.inr hdistance), ← hr, ← hg]
    cases sideOf m <;> rfl
  have hstart : s.startCounted w = (s.orderRun w m w.profile.fs).stepRun := by
    rw [State.startCounted, hm, if_neg h0]
  have hemitted : (s.setGen g).emitStep = (s.setGen g).setGen (g.emitted r) := hemit
  rw [hstart, hordered, State.stepRun, hemitted, hafter]
  exact congrArg s.setGen hnext

/-- A GOTO at its target is done at once (R35). -/
theorem State.Starting.completes (hd : s.distance w = 0)
    (hs : s.cfg.encoderMode = .off ∨ s.cfg.settleWindow = 0) : s.startCounted w = { s with
      seq := s.seq.ended .idle w.tag .done
      gen := s.gen.ceased, homing := .reset, follow := .reset
      encoder := { s.encoder with settle := none }, barrier := none } := by
  have hsettles : s.settlesAtEnd = false := by
    rcases hs with hs | hs <;> simp [State.settlesAtEnd, State.encoderOn, hs]
  rw [State.startCounted, if_pos hd, s.completeWork_done w.formed h.active rfl (.inr hsettles),
    State.endRecord_some _ _ w.formed h.active]
  rfl

end

/-! ### HOME (R128 to R132) -/

/-- The first step of an open run toward a side, within the travel (R70, R129, R134). -/
theorem State.seekRun_eq (s : State) (a : Active) (ha : s.seq.active = some a) (hk : a.work.kind = .home)
    (hw : s.cfg.followingWindow = 0) (d : Side) (ht : s.homing.travelUsed < s.homing.travelLimit) :
    s.seekRun d = (s.setHoming { s.homing with travelUsed := s.homing.travelUsed + 1 }).setGen
      (s.gen.begun s.cfg d a.work.profile (.seekBegun a.work.profile)) := by
  have hprofile : s.activeProfile = a.work.profile := by rw [State.activeProfile, ha]
  generalize a.work.profile = p at hprofile ⊢
  generalize hr : Run.openFrom p = r
  generalize hg : s.gen.orderOpen s.cfg d p = g
  have hgr : g.run = some r := by rw [← hg, ← hr]; rfl
  have hactive : (s.setGen g).seq.active = some a := ha
  have hemit := State.emitStep_home (s.setGen g) a r hactive hk hgr ht (State.errorBeyond_of_noWindow _ hw)
  have hnext : (g.emitted r).schedule = s.gen.begun s.cfg d p (.seekBegun p) := by
    rw [g.emitted_first_schedule r p (by rw [← hr]; rfl) (by rw [← hr]; rfl) (.inl (by rw [← hg]; rfl))
      (by rw [← hr]; rfl) (by rw [← hr]; rfl) (.inl (by rw [← hr]; exact RunKind.noConfusion)), ← hr, ← hg]
    cases d <;> rfl
  rw [State.seekRun, hprofile, hg, State.firstStep, hemit]
  exact congrArg (State.setGen (s.setHoming { s.homing with travelUsed := s.homing.travelUsed + 1 })) hnext

theorem State.Starting.seeks {s : State} {w : Work} (h : s.Starting w) (hk : w.kind = .home) (d : Side)
    (ht : s.homing.travelUsed < s.homing.travelLimit) : s.seekRun d =
      (s.setHoming { s.homing with travelUsed := s.homing.travelUsed + 1 }).setGen
        (s.gen.begun s.cfg d w.profile (.seekBegun w.profile)) :=
  s.seekRun_eq w.formed h.active hk h.window d ht

end Sys2Proof.Machine

/-! ## Proofs: dispatch of a candidate at a standing generator (O52) -/

namespace Sys2Proof.Machine

/-- A dispatch whose record ends within its own start and leaves no work (R28, R35). -/
theorem State.dispatch_completes (s : State) (hs : s.station = .idle ∨ s.station = .held) {src : Source}
    {w : Work} (hc : s.candidate = some (src, w)) (hg : s.gate w = .start)
    (hidle : (s.startCandidate src w).station = .idle) (hw : (s.startCandidate src w).noWork) :
    s.dispatch = s.startCandidate src w := by
  have honce : s.dispatchOnce = s.startCandidate src w := by
    rw [State.dispatchOnce, hc]
    simp only [hg]
  have hstarts : s.dispatchStarts = true := by rw [s.dispatchStarts_eq hc, hg, decide_eq_true rfl]
  have hrest : ∀ n, State.dispatchRounds n (s.startCandidate src w) = s.startCandidate src w := by
    intro n
    have hnone := (State.candidate_eq_none (s.startCandidate src w)).2 hw
    have hstill : (s.startCandidate src w).setStation .idle = s.startCandidate src w := by
      rw [← hidle]
      rfl
    cases n with
    | zero => rfl
    | succ n =>
      have hstop : (s.startCandidate src w).dispatchStarts = false := by rw [State.dispatchStarts, hnone]
      have honly : (s.startCandidate src w).dispatchOnce = s.startCandidate src w := by
        rw [State.dispatchOnce, hnone]
        exact hstill
      rw [State.dispatchRounds, hstop, honly]
      rfl
  rw [State.dispatch, if_pos hs, State.dispatchRounds, hstarts, honce, hidle, hrest]
  rfl

/-! ### The candidate and its start -/

/-- A waiting station whose candidate starts, its generator at standstill and no entry BOUND. -/
structure State.Ready (s : State) (src : Source) (w : Work) : Prop where
  station : s.station = .idle
  candidate : s.candidate = some (src, w)
  gate : s.gate w = .start
  phase : s.gen.phase = .standstill
  run : s.gen.run = none
  unbound : ∀ e ∈ s.queue.entries, e.bound = false
  window : s.cfg.followingWindow = 0

/-- The candidate has left its place and its record is formed (R33). -/
def State.formedFrom (s : State) (src : Source) (w : Work) : State := (s.takeCandidate src).formRecord w

section

variable {s : State} {src : Source} {w : Work} (h : s.Ready src w)

theorem State.takeCandidate_gen : (s.takeCandidate src).gen = s.gen := by cases src <;> rfl

theorem State.takeCandidate_drive : (s.takeCandidate src).drive = s.drive := by cases src <;> rfl

theorem State.takeCandidate_cfg : (s.takeCandidate src).cfg = s.cfg := by cases src <;> rfl

include h

theorem State.Ready.starting : (s.formedFrom src w).Starting w where
  station := rfl
  active := rfl
  phase := (congrArg Gen.phase State.takeCandidate_gen).trans h.phase
  run := (congrArg Gen.run State.takeCandidate_gen).trans h.run
  unbound := by
    refine SegQueue.unbound_eq_self _ fun e he => ?_
    cases src with
    | queueHead => exact h.unbound e (List.mem_of_mem_tail he)
    | stackTop => exact h.unbound e he
  window := (congrArg Settings.followingWindow State.takeCandidate_cfg).trans h.window

/-- A start check that fails ends the record FAULTED without a step (R34). -/
theorem State.Ready.fails (k : FaultKind) (hk : k.clearsHomed = false)
    (hf : (s.formedFrom src w).startFault w = some k) :
    s.dispatch.seq = s.seq.ended .faulted w.tag .faulted ∧
    s.dispatch.queue = (s.takeCandidate src).queue ∧ s.dispatch.stack = (s.takeCandidate src).stack ∧
    s.dispatch.gen = s.gen.ceased ∧
    s.dispatch.faults = s.faults.record ⟨k, s.link.cycle, some w.tag, s.gen.position⟩ ∧
    s.dispatch.groups = ((s.formedFrom src w).raiseInvolved .fault s.own).groups := by
  have hstart : s.startCandidate src w = (s.formedFrom src w).recordFault k (some w.tag) := by
    rw [State.startCandidate, ← State.formedFrom]
    simp only [hf]
  have hfault := h.starting.faults k
  have hhomed : (s.formedFrom src w).homedAfter k = s.seq.homed := by
    rw [State.homedAfter, hk]
    cases src <;> rfl
  rw [hhomed] at hfault
  have hdispatch := s.dispatch_starts (.inl h.station) h.candidate h.gate (by
    rw [hstart, hfault]
    exact Station.noConfusion)
  rw [hdispatch, hstart, hfault]
  cases src <;> exact ⟨rfl, rfl, rfl, rfl, rfl, rfl⟩

/-- A start that passes its checks and leaves IDLE. -/
theorem State.Ready.starts (t : State) (hf : (s.formedFrom src w).startFault w = none)
    (hw : (s.formedFrom src w).handWork w = t) (ht : t.station ≠ .idle) : s.dispatch = t := by
  have hstart : s.startCandidate src w = t := by
    rw [State.startCandidate, ← State.formedFrom]
    simp only [hf]
    exact hw
  rw [s.dispatch_starts (.inl h.station) h.candidate h.gate (by rwa [hstart]), hstart]

/-- A start that is done within itself and leaves no work. -/
theorem State.Ready.completes (t : State) (hf : (s.formedFrom src w).startFault w = none)
    (hw : (s.formedFrom src w).handWork w = t) (ht : t.station = .idle) (hn : t.noWork) :
    s.dispatch = t := by
  have hstart : s.startCandidate src w = t := by
    rw [State.startCandidate, ← State.formedFrom]
    simp only [hf]
    exact hw
  rw [s.dispatch_completes (.inl h.station) h.candidate h.gate (by rwa [hstart]) (by rwa [hstart]), hstart]

/-- A counted distance that passes its checks (R33, R57, R60). -/
theorem State.Ready.counts (n : Int) (hk : w.kind = .move ∨ w.kind = .goto)
    (hn : (s.formedFrom src w).distance w = n)
    (hhand : (s.formedFrom src w).handWork w = (s.formedFrom src w).startCounted w)
    (hf : (s.formedFrom src w).startFault w = none) (hc : w.chain = false) (h2 : 2 ≤ n.natAbs) :
    s.dispatch = (s.formedFrom src w).setGen
      (s.gen.begun s.cfg (sideOf n) w.profile (.countedBegun w.profile n.natAbs)) := by
  have hcounted := h.starting.counts hk hc (hn ▸ h2)
  rw [hn] at hcounted
  refine h.starts _ hf ?_ (by exact Station.noConfusion)
  rw [hhand, hcounted]
  cases src <;> rfl

end

/-! ### The works that count a distance (R33, R69, R83) -/

/-- A work that runs a given distance. -/
structure Work.Moves (w : Work) (n : Int) : Prop where
  kind : w.kind = .move
  distance : ∀ t : State, t.distance w = n
  handed : ∀ t : State, t.handWork w = t.startCounted w

/-- A work that runs to a target. -/
structure Work.Goes (w : Work) (target : Position) : Prop where
  kind : w.kind = .goto
  distance : ∀ t : State, t.distance w = (target - t.gen.position).toInt
  handed : ∀ t : State, t.handWork w = t.startCounted w

theorem Work.moves_segment (e : QueueEntry) (n : Int) (h : e.body = .move n) : (Work.segment e).Moves n where
  kind := by simp [Work.kind, h, Body.kind]
  distance t := by rw [State.distance, h]
  handed t := by rw [State.handWork, h]

theorem Work.moves_residual (r : Residual) (n : Int) (h : r.remaining = .move n) : (Work.residual r).Moves n where
  kind := by simp [Work.kind, h, Remaining.kind]
  distance t := by rw [State.distance, h]
  handed t := by rw [State.handWork, h]

theorem Work.goes_segment (e : QueueEntry) (target : Position) (h : e.body = .goto target) :
    (Work.segment e).Goes target where
  kind := by simp [Work.kind, h, Body.kind]
  distance t := by
    rw [State.distance, h]
    rfl
  handed t := by rw [State.handWork, h]

theorem Work.goes_residual (r : Residual) (target : Position) (h : r.remaining = .goto target) :
    (Work.residual r).Goes target where
  kind := by simp [Work.kind, h, Remaining.kind]
  distance t := by
    rw [State.distance, h]
    rfl
  handed t := by rw [State.handWork, h]

section

variable {s : State} {src : Source} {w : Work} (h : s.Ready src w)

theorem State.formedFrom_limit (d : Side) : (s.formedFrom src w).limitActive d = s.limitActive d :=
  State.limitActive_of_drive (s := s) State.takeCandidate_drive d

theorem State.limitCheck_formed (n : Int) (h0 : n ≠ 0) : (s.formedFrom src w).limitCheck n =
    if s.limitActive (sideOf n) = true then some (limitFault (sideOf n)) else none := by
  rw [State.limitCheck, State.formedFrom_limit]
  simp only [h0, ne_eq, not_false_eq_true, true_and]

theorem Work.Moves.startFault {n : Int} (hm : w.Moves n) (h0 : n ≠ 0) : (s.formedFrom src w).startFault w =
    if s.limitActive (sideOf n) = true then some (limitFault (sideOf n)) else none := by
  rw [State.startFault, hm.kind]
  simp only [hm.distance]
  exact State.limitCheck_formed n h0

theorem State.formedFrom_distance {target : Position} (hg : w.Goes target) :
    (s.formedFrom src w).distance w = (target - s.gen.position).toInt := by
  rw [hg.distance]
  cases src <;> rfl

theorem State.formedFrom_homed : (s.formedFrom src w).seq.homed = s.seq.homed := by cases src <;> rfl

theorem Work.Goes.startFault {target : Position} (hg : w.Goes target) :
    (s.formedFrom src w).startFault w =
      if s.seq.homed = false then some .notHomed
      else if 16777215 < ((target - s.gen.position).toInt).natAbs then some .range
      else (s.formedFrom src w).limitCheck (target - s.gen.position).toInt := by
  rw [State.startFault, hg.kind]
  simp only [State.formedFrom_distance hg, State.formedFrom_homed, Bool.not_eq_true']
  rfl

end

end Sys2Proof.Machine

/-! ## Proofs: the pulse, the holdoff and the dispatch that ends it (O52) -/

namespace Sys2Proof.Machine

/-- The drive with neither pulse nor holdoff (R153, R154). -/
def Drive.cleared (d : Drive) : Drive := { d with clear := .none, pulseTimer := none, holdoffTimer := none }

/-- The state at the end of the holdoff, before dispatch (R154). -/
def State.cleared (s : State) : State := s.setDrive s.drive.cleared

theorem exec_holdoffEnd_dispatches (s : State) (h : s.drive.clear = .hold) :
    exec .holdoffEnd s = .next s.cleared.dispatch := congrArg Host.Outcome.next (if_pos h)

theorem exec_pulseEnd_holds (s : State) (h : s.drive.clear = .pulse) (h0 : s.cfg.holdoff ≠ 0) :
    exec .drvClrPulseEnd s = .next { s with drive := { s.drive with
      clear := .hold, pulseTimer := none, holdoffTimer := some s.cfg.holdoff } } :=
  congrArg Host.Outcome.next ((if_pos h).trans (if_neg h0))

theorem exec_pulseEnd_dispatches (s : State) (h : s.drive.clear = .pulse) (h0 : s.cfg.holdoff = 0) :
    exec .drvClrPulseEnd s = .next s.cleared.dispatch :=
  congrArg Host.Outcome.next ((if_pos h).trans (if_pos h0))

/-- An idle station at the end of its holdoff, in the terms of its invariants. -/
theorem State.cleared_stands (s : State) (hs : s.station = .idle) (hm : s.motionInv) (hc : s.chainInv) :
    s.gen.phase = .standstill ∧ s.gen.run = none ∧ ∀ e ∈ s.queue.entries, e.bound = false := by
  obtain ⟨-, ⟨hphase, -⟩, hmotion, -⟩ := hm
  have hrun : s.gen.run = none := by
    cases hr : s.gen.run with
    | none => rfl
    | some r =>
      have hmoving := hmotion (by rw [hr]; rfl)
      rw [hs] at hmoving
      rcases hmoving with h | h <;> cases h
  refine ⟨hphase.2 hrun, hrun, fun e he => ?_⟩
  have hnone := List.filter_eq_nil_iff.1 (s.unbound_of_waiting (.inl hs) hc) e he
  simpa using hnone

section

variable (s : State) (hclear : s.drive.clear = .hold) (hs : s.station = .idle) (hm : s.motionInv)
  (hc : s.chainInv) (hw : s.cfg.followingWindow = 0)

include hs hm hc hw in
theorem State.cleared_ready (src : Source) (w : Work) (hcandidate : s.candidate = some (src, w))
    (hlatch : s.seq.paused = false ∨ w.insert = true) (hhalt : s.groupHalted w.group = false)
    (hbarrier : w.barrier = none) : s.cleared.Ready src w := by
  obtain ⟨hphase, hrun, hunbound⟩ := s.cleared_stands hs hm hc
  refine ⟨hs, hcandidate, ?_, hphase, hrun, hunbound, hw⟩
  rw [State.gate_of_open s.cleared w hlatch hhalt rfl, hbarrier]
  rfl

/-- What O52 calls `fails`. -/
def State.FailsStart (s : State) (free : State) (w : Work) (k : FaultKind) : Prop :=
  ∃ t, exec .holdoffEnd s = .next t ∧
    t.seq = s.seq.ended .faulted w.tag .faulted ∧ t.queue = free.queue ∧ t.stack = free.stack ∧
    t.gen = s.gen.ceased ∧
    t.faults = s.faults.record ⟨k, s.link.cycle, some w.tag, s.gen.position⟩ ∧
    t.groups = ({ free with seq :=
      { s.seq with station := .running, active := some w.formed } }.raiseInvolved .fault s.own).groups

/-- What O52 calls `counts`. -/
def State.CountsFrom (s : State) (free : State) (w : Work) (p : Profile) (n : Int) : Prop :=
  (s.limitActive (sideOf n) = true → s.FailsStart free w (limitFault (sideOf n))) ∧
  (s.limitActive (sideOf n) = false → w.chain = false → 2 ≤ n.natAbs →
    exec .holdoffEnd s = .next { free with
      seq := { s.seq with station := .running, active := some w.formed }
      gen := s.gen.begun s.cfg (sideOf n) p (.countedBegun p n.natAbs) })

/-- What O52 calls `goes`. -/
def State.GoesFrom (s : State) (free : State) (w : Work) (p : Profile) (target : Position) : Prop :=
  (s.seq.homed = false → s.FailsStart free w .notHomed) ∧
  (s.seq.homed = true → 16777215 < ((target - s.gen.position).toInt).natAbs → s.FailsStart free w .range) ∧
  (s.seq.homed = true → ((target - s.gen.position).toInt).natAbs ≤ 16777215 →
    (target - s.gen.position).toInt ≠ 0 → s.CountsFrom free w p (target - s.gen.position).toInt) ∧
  (s.seq.homed = true → (target - s.gen.position).toInt = 0 → free.noWork →
    s.cfg.encoderMode = .off ∨ s.cfg.settleWindow = 0 →
    exec .holdoffEnd s = .next { free with
      seq := s.seq.ended .idle w.tag .done
      gen := s.gen.ceased, homing := .reset, follow := .reset
      encoder := { s.encoder with settle := none }, barrier := none })

theorem limitFault_keepsHomed (d : Side) : (limitFault d).clearsHomed = false := by cases d <;> rfl

section

variable {s} {src : Source} {w : Work} (h : s.cleared.Ready src w)

include hclear h

theorem failsStart_of_fault (k : FaultKind) (hk : k.clearsHomed = false)
    (hf : (s.cleared.formedFrom src w).startFault w = some k) :
    s.FailsStart (s.cleared.takeCandidate src) w k := by
  obtain ⟨hseq, hqueue, hstack, hgen, hfaults, hgroups⟩ := h.fails k hk hf
  refine ⟨_, exec_holdoffEnd_dispatches s hclear, hseq, hqueue, hstack, hgen, hfaults, hgroups.trans ?_⟩
  cases src <;> rfl

/-- A counted distance whose checks leave the limit (R34). -/
theorem countsFrom_of_limitCheck (n : Int) (hk : w.kind = .move ∨ w.kind = .goto)
    (hn : (s.cleared.formedFrom src w).distance w = n)
    (hhand : (s.cleared.formedFrom src w).handWork w = (s.cleared.formedFrom src w).startCounted w)
    (hf : (s.cleared.formedFrom src w).startFault w =
      if s.limitActive (sideOf n) = true then some (limitFault (sideOf n)) else none) :
    s.CountsFrom (s.cleared.takeCandidate src) w w.profile n := by
  refine ⟨fun hl => ?_, fun hl hc h2 => ?_⟩
  · exact failsStart_of_fault hclear h _ (limitFault_keepsHomed _) (hf.trans (if_pos hl))
  · have hnone : (s.cleared.formedFrom src w).startFault w = none :=
      hf.trans (if_neg (Bool.eq_false_iff.1 hl))
    rw [exec_holdoffEnd_dispatches s hclear, h.counts n hk hn hhand hnone hc h2]
    cases src <;> rfl

theorem countsFrom_of_moves (n : Int) (hm : w.Moves n) (h0 : n ≠ 0) :
    s.CountsFrom (s.cleared.takeCandidate src) w w.profile n :=
  countsFrom_of_limitCheck hclear h n (.inl hm.kind) (hm.distance _) (hm.handed _) (hm.startFault h0)

theorem goesFrom_of_goes (target : Position) (hg : w.Goes target) :
    s.GoesFrom (s.cleared.takeCandidate src) w w.profile target := by
  have hfault := Work.Goes.startFault (s := s.cleared) (src := src) hg
  have hdistance := State.formedFrom_distance (s := s.cleared) (src := src) hg
  have hnot : s.seq.homed = true → ¬ s.cleared.seq.homed = false := fun ht hf =>
    Bool.noConfusion (hf.symm.trans ht)
  refine ⟨fun hhomed => ?_, fun hhomed hrange => ?_, fun hhomed hrange h0 => ?_,
    fun hhomed h0 hwork hsettle => ?_⟩
  · exact failsStart_of_fault hclear h _ rfl (hfault.trans (if_pos hhomed))
  · exact failsStart_of_fault hclear h _ rfl
      (hfault.trans ((if_neg (hnot hhomed)).trans (if_pos hrange)))
  · refine countsFrom_of_limitCheck hclear h _ (.inr hg.kind) hdistance (hg.handed _) ?_
    refine hfault.trans ((if_neg (hnot hhomed)).trans
      ((if_neg (by exact Nat.not_lt.2 hrange)).trans ?_))
    exact State.limitCheck_formed _ h0
  · have hnone : (s.cleared.formedFrom src w).startFault w = none := by
      have hzero : (target - s.cleared.gen.position).toInt = 0 := h0
      refine hfault.trans ((if_neg (hnot hhomed)).trans
        ((if_neg (by rw [hzero]; decide)).trans ?_))
      rw [State.limitCheck, hzero]
      exact if_neg fun hl => hl.1 rfl
    have hdone := h.starting.completes (hdistance.trans h0)
      (by cases src <;> exact hsettle)
    have hresult := h.completes _ hnone ((hg.handed _).trans hdone) rfl hwork
    rw [exec_holdoffEnd_dispatches s hclear, hresult]
    cases src <;> rfl

/-- A DWELL starts (R33, R38, R85). -/
theorem exec_holdoffEnd_dwells (n : Nat) (hk : w.kind = .dwell)
    (hhand : ∀ t : State, t.handWork w = t.startDwell n) : exec .holdoffEnd s =
      .next ((s.cleared.takeCandidate src).dwellBegun w n) := by
  have hnone : (s.cleared.formedFrom src w).startFault w = none := by rw [State.startFault, hk]
  rw [exec_holdoffEnd_dispatches s hclear, h.starts _ hnone (hhand _) (by exact Station.noConfusion)]
  cases src <;> rfl

end

end

end Sys2Proof.Machine

/-! ## Proofs: the start of a FOLLOW and of a HOME, and dispatch at the end of the holdoff (O52) -/

namespace Sys2Proof.Machine

/-! ### FOLLOW (R34, R140) -/

theorem State.startFault_follow (s : State) (e : QueueEntry) (leader : Nat) (num : Int) (den : Nat)
    (bound : Option Nat) (hbody : e.body = .follow leader num den bound) : s.startFault (.segment e) =
      if s.leaderReady leader = true then none else some .followLost := by
  have hkind : (Work.segment e).kind = .follow := by simp [Work.kind, hbody, Body.kind]
  have hleader : (Work.segment e).leader = some leader := by rw [Work.leader, hbody]
  rw [State.startFault, hkind, hleader]

theorem State.leaderReady_iff (s : State) (leader : Nat) : s.leaderReady leader = true ↔
    (s.peer leader).presence = .present ∧ (s.peer leader).status.isSome = true := by
  simp [State.leaderReady]

/-! ### HOME (R128 to R131) -/

/-- A HOME at the entry of its first phase (R128, R129). -/
def State.homeFormed (s : State) (first : HomingPhase) (seen : Bool) (d : Side) (count : Nat)
    (offset : Position) (bound : Option Nat) : State :=
  (s.setSeq { s.seq with homed := false }).setHoming
    ⟨first, .moving, d, seen, count, 0, bound.getD 16777215, offset⟩

/-- The first phase of a HOME, by the HOME input and the limit on side d (R128, R129). -/
def State.firstPhase (s : State) (d : Side) : HomingPhase :=
  if s.drive.home = true then .clear else if s.limitActive d = true then .reverseSeek else .seek

/-- The way of a first phase: d in SEEK, and opposite to it in the others (R129, R131). -/
def firstWay (first : HomingPhase) (d : Side) : Side := if first = .seek then d else opposite d

section

variable (s : State) (d : Side) (count : Nat) (offset : Position) (bound : Option Nat)

theorem State.homeFormed_limit (first : HomingPhase) (seen : Bool) (x : Side) :
    (s.homeFormed first seen d count offset bound).limitActive x = s.limitActive x :=
  State.limitActive_of_drive rfl x

/-- The entry of REVERSE_SEEK or CLEAR from the start (R129, R131). -/
theorem State.enterAway_homeFormed (p : HomingPhase) :
    (s.homeFormed .none false d count offset bound).enterAway p =
      if s.limitActive (opposite d) = true then (s.homeFormed p s.drive.home d count offset bound).failHoming
      else (s.homeFormed p s.drive.home d count offset bound).seekRun (opposite d) := by
  have hlimit := s.homeFormed_limit d count offset bound .none false (opposite d)
  rw [State.enterAway, ← hlimit]
  rfl

theorem State.enterSeek_homeFormed (h : s.limitActive d = false) :
    (s.homeFormed .none false d count offset bound).enterSeek =
      (s.homeFormed .seek false d count offset bound).seekRun d :=
  if_neg (Bool.eq_false_iff.1 ((s.homeFormed_limit d count offset bound .none false d).trans h))

/-- A HOME enters its first phase with the entry test and the first step (R128, R129). -/
theorem State.startHoming_eq : s.startHoming d count offset bound =
    if s.limitActive (firstWay (s.firstPhase d) d) = true then
      (s.homeFormed (s.firstPhase d) (s.drive.home && decide (s.firstPhase d ≠ .seek)) d count offset
        bound).failHoming
    else (s.homeFormed (s.firstPhase d) (s.drive.home && decide (s.firstPhase d ≠ .seek)) d count offset
      bound).seekRun (firstWay (s.firstPhase d) d) := by
  have hlimit := s.homeFormed_limit d count offset bound .none false d
  have hstart : s.startHoming d count offset bound =
      if s.drive.home = true then (s.homeFormed .none false d count offset bound).enterAway .clear
      else if s.limitActive d = true then (s.homeFormed .none false d count offset bound).enterAway .reverseSeek
      else (s.homeFormed .none false d count offset bound).enterSeek := by
    rw [← hlimit]
    rfl
  rw [hstart, State.firstPhase]
  cases hhome : s.drive.home with
  | true =>
    rw [if_pos rfl, if_pos rfl, s.enterAway_homeFormed, hhome]
    rfl
  | false =>
    rw [if_neg Bool.false_ne_true, if_neg Bool.false_ne_true]
    cases hl : s.limitActive d with
    | true =>
      rw [if_pos rfl, if_pos rfl, s.enterAway_homeFormed, hhome]
      rfl
    | false =>
      have hway : firstWay .seek d = d := if_pos rfl
      rw [if_neg Bool.false_ne_true, if_neg Bool.false_ne_true, hway, hl, if_neg Bool.false_ne_true,
        s.enterSeek_homeFormed d count offset bound hl]
      rfl

end

theorem State.Starting.homeFormed {s : State} {w : Work} (h : s.Starting w) (first : HomingPhase) (seen : Bool)
    (d : Side) (count : Nat) (offset : Position) (bound : Option Nat) :
    (s.homeFormed first seen d count offset bound).Starting w :=
  ⟨h.station, h.active, h.phase, h.run, h.unbound, h.window⟩

section

variable {s : State} (hclear : s.drive.clear = .hold) {src : Source} {e : QueueEntry}
  (h : s.cleared.Ready src (.segment e))

include hclear h

/-- A FOLLOW starts with the position of its leader as the reference, or FOLLOW_LOST (R34, R140). -/
theorem exec_holdoffEnd_follows (leader : Nat) (num : Int) (den : Nat) (bound : Option Nat)
    (hbody : e.body = .follow leader num den bound) :
    ((s.peer leader).presence ≠ .present ∨ (s.peer leader).status = none →
      s.FailsStart (s.cleared.takeCandidate src) (.segment e) .followLost) ∧
    (∀ p, (s.peer leader).presence = .present → (s.peer leader).status = some p →
      exec .holdoffEnd s = .next { s.cleared.takeCandidate src with
        seq := { s.seq with station := .running, active := some (Work.segment e).formed }
        follow := ⟨.tracking, leader, num, den, p.position, 0, 0, 0, bound, 0, none, none⟩ }) := by
  have hpeer : (s.cleared.formedFrom src (.segment e)).peer leader = s.peer leader := by cases src <;> rfl
  have hfault := (s.cleared.formedFrom src (.segment e)).startFault_follow e leader num den bound hbody
  have hready := (s.cleared.formedFrom src (.segment e)).leaderReady_iff leader
  rw [hpeer] at hready
  refine ⟨fun hlost => ?_, fun p hpresent hstatus => ?_⟩
  · refine failsStart_of_fault hclear h _ rfl (hfault.trans (if_neg fun hr => ?_))
    obtain ⟨hp, hs⟩ := hready.1 hr
    exact hlost.elim (fun hn => hn hp) fun hn => by simp [hn] at hs
  · have hnone := hfault.trans (if_pos (hready.2 ⟨hpresent, by rw [hstatus]; rfl⟩))
    have hhand : (s.cleared.formedFrom src (.segment e)).handWork (.segment e) =
        (s.cleared.formedFrom src (.segment e)).setFollow
          ⟨.tracking, leader, num, den, p.position, 0, 0, 0, bound, 0, none, none⟩ := by
      rw [State.handWork, hbody]
      simp only [State.startFollow, hpeer, hstatus]
      rfl
    rw [exec_holdoffEnd_dispatches s hclear, h.starts _ hnone hhand (by exact Station.noConfusion)]
    cases src <;> rfl

/-- A HOME enters its first phase, or fails at a leading limit (R128, R129, R133, R135). -/
theorem exec_holdoffEnd_homes (d : Side) (count : Nat) (offset : Position) (bound : Option Nat)
    (hbody : e.body = .home d count offset bound) (hbound : bound ≠ some 0) :
    (s.limitActive (firstWay (s.firstPhase d) d) = false → exec .holdoffEnd s =
      .next { s.cleared.takeCandidate src with
        seq := { s.seq with
          station := .running, active := some (Work.segment e).formed, homed := false }
        homing := ⟨s.firstPhase d, .moving, d, s.drive.home && decide (s.firstPhase d ≠ .seek), count, 1,
          bound.getD 16777215, offset⟩
        gen := s.gen.begun s.cfg (firstWay (s.firstPhase d) d) e.profile (.seekBegun e.profile) }) ∧
    (s.limitActive (firstWay (s.firstPhase d) d) = true → ∃ t, exec .holdoffEnd s = .next t ∧
      t.seq = { s.seq.ended .faulted e.tag .faulted with homed := false } ∧
      t.gen = s.gen.ceased ∧ t.homing = .reset ∧
      t.faults = s.faults.record ⟨.homingFailed, s.link.cycle, some e.tag, s.gen.position⟩) := by
  have hkind : (Work.segment e).kind = .home := by simp [Work.kind, hbody, Body.kind]
  have hnone : (s.cleared.formedFrom src (.segment e)).startFault (.segment e) = none := by
    rw [State.startFault, hkind]
  have hdrive : (s.cleared.formedFrom src (.segment e)).drive = s.cleared.drive := by cases src <;> rfl
  have hlimit : ∀ x, (s.cleared.formedFrom src (.segment e)).limitActive x = s.limitActive x := fun x =>
    (State.limitActive_of_drive hdrive x).trans (by cases x <;> rfl)
  have hphase : (s.cleared.formedFrom src (.segment e)).firstPhase d = s.firstPhase d := by
    rw [State.firstPhase, hdrive, hlimit]
    rfl
  have hhome : (s.cleared.formedFrom src (.segment e)).drive.home = s.drive.home := by rw [hdrive]; rfl
  generalize hfirst : s.firstPhase d = first at hphase ⊢
  have hhand : (s.cleared.formedFrom src (.segment e)).handWork (.segment e) =
      (s.cleared.formedFrom src (.segment e)).startHoming d count offset bound := by
    rw [State.handWork, hbody]
  rw [State.startHoming_eq, hphase, hlimit, hhome] at hhand
  have hformed := h.starting.homeFormed first (s.drive.home && decide (first ≠ .seek)) d count offset bound
  refine ⟨fun hl => ?_, fun hl => ?_⟩
  · have htravel : 0 < bound.getD 16777215 := by
      cases bound with
      | none => decide
      | some b => exact Nat.pos_of_ne_zero fun hb => hbound (congrArg some hb)
    have hseek := hformed.seeks hkind (firstWay first d) htravel
    have hmoves := hhand.trans ((if_neg (Bool.eq_false_iff.1 hl)).trans hseek)
    rw [exec_holdoffEnd_dispatches s hclear, h.starts _ hnone hmoves (by exact Station.noConfusion)]
    cases src <;> rfl
  · have hfault := hformed.faults .homingFailed
    have hfails := hhand.trans ((if_pos hl).trans hfault)
    rw [exec_holdoffEnd_dispatches s hclear, h.starts _ hnone hfails (by exact Station.noConfusion)]
    refine ⟨_, rfl, ?_⟩
    cases src <;> exact ⟨rfl, rfl, rfl, rfl⟩

end

/-! ### The holdoff as a whole -/

theorem State.takeStackTop_eq (s : State) (r : Residual) (rs : List Residual)
    (hr : s.stack.residuals = r :: rs) :
    s.takeCandidate .stackTop = s.setStack { s.stack with residuals := rs } := by
  rw [State.takeCandidate, hr]
  rfl

/-- Settles O52: the timers, then the dispatch by the candidate that waits. -/
theorem pulseThenHoldoffThenDispatch : Obligations.PulseThenHoldoffThenDispatch := by
  intro s clear
  refine ⟨fun h => congrArg Host.Outcome.next (if_neg h), fun h => congrArg Host.Outcome.next (if_neg h),
    fun h h0 => exec_pulseEnd_holds s h h0, fun h h0 hb => ?_, fun h hb => ?_, fun h hs hm hc hw => ?_⟩
  · rw [exec_pulseEnd_dispatches s h h0, State.dispatch_busy s.cleared hb]
    rfl
  · rw [exec_holdoffEnd_dispatches s h, State.dispatch_busy s.cleared hb]
    rfl
  intro ended record running begun side fails dwells counts goes
  refine ⟨fun e es he hplace hlatch hhalt hbarrier => ?queued, fun r rs hr hinserts => ?stacked⟩
  case queued =>
    intro w free
    have hcandidate := s.candidate_queueHead e es he hplace.symm
    have hready := s.cleared_ready hs hm hc hw .queueHead (.segment e) hcandidate hlatch hhalt hbarrier
    have hfree : s.cleared.takeCandidate .queueHead = free := s.cleared.takeQueueHead_eq e es he
    refine ⟨fun n hn => ?_, fun n hn h0 => ?_, fun target hn => ?_, fun leader num den bound hn => ?_,
      fun d count offset bound hn hbound => ?_⟩
    · have hkind : (Work.segment e).kind = .dwell := by simp [Work.kind, hn, Body.kind]
      have hdwells := exec_holdoffEnd_dwells h hready n hkind fun t => by rw [State.handWork, hn]
      rw [hfree] at hdwells
      exact hdwells
    · have hcounts := countsFrom_of_moves h hready n (Work.moves_segment e n hn) h0
      rw [hfree] at hcounts
      exact ⟨fun hl => hcounts.1 hl, fun hl hchain h2 => hcounts.2 hl hchain h2⟩
    · have hgoes := goesFrom_of_goes h hready target (Work.goes_segment e target hn)
      rw [hfree] at hgoes
      exact hgoes
    · have hfollows := exec_holdoffEnd_follows h hready leader num den bound hn
      rw [hfree] at hfollows
      exact hfollows
    · have hhomes := exec_holdoffEnd_homes h hready d count offset bound hn hbound
      rw [hfree] at hhomes
      exact hhomes
  case stacked =>
    intro w free
    have hcandidate := s.candidate_stackTop r rs hr fun e es he => hinserts e (he ▸ List.mem_cons_self)
    have hcleared : s.cleared.candidate = some (.stackTop, .residual r) := hcandidate
    have hfree : s.cleared.takeCandidate .stackTop = free := s.cleared.takeStackTop_eq r rs hr
    have hstays : s.cleared.setStation .idle = s.cleared := by
      rw [← hs]
      rfl
    refine ⟨fun hp => ?_, fun hp hg => ?_, fun hp hg => ⟨fun hb => ?_, fun k hk _ hsome hunknown => ?_⟩⟩
    · have hgate : s.cleared.gate (.residual r) = .idle := State.gate_of_latch s.cleared _ hp rfl
      exact (exec_holdoffEnd_dispatches s h).trans
        (congrArg Host.Outcome.next ((s.cleared.dispatch_waits (.inl hs) hcleared hgate).trans hstays))
    · have hgate : s.cleared.gate (.residual r) = .held := State.gate_of_halted s.cleared _ (.inl hp) hg
      exact (exec_holdoffEnd_dispatches s h).trans
        (congrArg Host.Outcome.next (s.cleared.dispatch_held (.inl hs) hcleared hgate))
    · have hready := s.cleared_ready hs hm hc hw .stackTop (.residual r) hcandidate (.inl hp) hg hb
      refine ⟨fun n hn => ?_, fun n hn h0 => ?_, fun target hn => ?_⟩
      · have hkind : (Work.residual r).kind = .dwell := by simp [Work.kind, hn, Remaining.kind]
        have hdwells := exec_holdoffEnd_dwells h hready n hkind fun t => by rw [State.handWork, hn]
        rw [hfree] at hdwells
        exact hdwells
      · have hcounts := countsFrom_of_moves h hready n (Work.moves_residual r n hn) h0
        rw [hfree] at hcounts
        exact hcounts
      · have hgoes := goesFrom_of_goes h hready target (Work.goes_residual r target hn)
        rw [hfree] at hgoes
        exact hgoes
    · have hgate : s.cleared.gate (.residual r) = .arm k := by
        rw [State.gate_of_open s.cleared (.residual r) (.inl hp) hg rfl, show (Work.residual r).barrier = some k from hk]
        rfl
      exact (exec_holdoffEnd_dispatches s h).trans (congrArg Host.Outcome.next
        ((s.cleared.dispatch_arms (.inl hs) hcleared hgate).trans
          (s.cleared.arm_waits r.group k hsome hunknown)))

end Sys2Proof.Machine

/-! ## Proofs: the conversion of the leader's motion (O53) -/

namespace Sys2Proof.Machine

/-- The leader's motion through the ratio, with what the last conversion left (R141). -/
def Follow.dividend (f : Follow) (p : Position) : Int := diff32 p f.reference * f.num + f.remainder

section

variable (f : Follow) (p : Position)

theorem Follow.convert_remainder : (f.convert p).remainder = (f.dividend p).tmod f.den := by
  have hdivide := Int.tdiv_mul_add_tmod (f.dividend p) f.den
  have hremainder : (f.convert p).remainder = f.dividend p - (f.dividend p).tdiv f.den * f.den := rfl
  omega

/-- The steps converted and the remainder make up the dividend (R141). -/
theorem Follow.convert_accounts :
    ((f.convert p).owed - f.owed) * f.den + (f.convert p).remainder = f.dividend p := by
  have howed : (f.convert p).owed - f.owed = (f.dividend p).tdiv f.den := add_sub_cancel_left _ _
  have hremainder : (f.convert p).remainder = f.dividend p - (f.dividend p).tdiv f.den * f.den := rfl
  rw [howed, hremainder]
  omega

theorem Follow.convert_remainder_lt (hd : 0 < f.den) : (f.convert p).remainder.natAbs < f.den := by
  rw [f.convert_remainder, Int.natAbs_tmod]
  exact Nat.mod_lt _ hd

/-- The remainder has the sign of the dividend (R141). -/
theorem Follow.convert_remainder_sign : (0 ≤ f.dividend p → 0 ≤ (f.convert p).remainder) ∧
    (f.dividend p ≤ 0 → (f.convert p).remainder ≤ 0) := by
  rw [f.convert_remainder]
  refine ⟨Int.tmod_nonneg _, fun h => ?_⟩
  have hneg := Int.tmod_nonneg (f.den : Int) (Int.neg_nonneg.2 h)
  rw [Int.neg_tmod] at hneg
  omega

end

/-- However the motion is split, no part of it is lost (R141). -/
theorem Follow.converts_account (ps : List Position) (f : Follow) (hd : 0 < f.den)
    (hr : f.remainder.natAbs < f.den) :
    (ps.foldl Follow.convert f).remainder.natAbs < f.den ∧
      ((ps.foldl Follow.convert f).owed - f.owed) * f.den + (ps.foldl Follow.convert f).remainder =
        (List.zipWith diff32 ps (f.reference :: ps)).sum * f.num + f.remainder := by
  induction ps generalizing f with
  | nil => simpa using hr
  | cons p ps ih =>
    obtain ⟨hlt, hrest⟩ := ih (f.convert p) hd (f.convert_remainder_lt p hd)
    have hfirst : _ = diff32 p f.reference * f.num + f.remainder := f.convert_accounts p
    refine ⟨hlt, ?_⟩
    have hden : (f.convert p).den = f.den := rfl
    have hnum : (f.convert p).num = f.num := rfl
    have hreference : (f.convert p).reference = p := rfl
    rw [hden, hnum, hreference] at hrest
    rw [List.foldl_cons, List.zipWith_cons_cons, List.sum_cons, add_mul]
    linarith

theorem Follow.counted_eq (f : Follow) :
    (f.followed < 16777215 → f.counted = f.followed + 1) ∧ f.counted ≤ 16777215 := by
  have hfree : Config.followedPastTop.toNat < 2 ^ 24 := Config.followedPastTop.isLt
  unfold Follow.counted
  split
  · exact ⟨fun _ => rfl, by omega⟩
  · exact ⟨fun h => absurd h ‹_›, by omega⟩

end Sys2Proof.Machine

/-! ## Proofs: the payments of the Follow Unit (O53) -/

namespace Sys2Proof.Machine

/-! ### A step of a FOLLOW (R143, R144) -/

/-- The step of a FOLLOW with the following check silent (R55, R57). -/
theorem State.emitStep_follow (s : State) (a : Active) (r : Run) (ha : s.seq.active = some a)
    (hk : a.work.kind = .follow) (hr : s.gen.run = some r)
    (he : (s.setGen (s.gen.emitted r)).errorBeyond = false) :
    s.emitStep = (s.setGen (s.gen.emitted r)).followStep := by
  have hkind : s.activeKind = some .follow := by rw [s.activeKind_some a ha, hk]
  have hspent : s.travelSpent = false := by simp [State.travelSpent, hkind]
  have hreport : (s.setGen (s.gen.emitted r)).reportStep = (s.setGen (s.gen.emitted r)).followStep := by
    have hsame : (s.setGen (s.gen.emitted r)).activeKind = some .follow := hkind
    rw [State.reportStep, hsame]
  rw [State.emitStep, if_neg (by simp [hspent]), s.gen.emit_run r hr, State.checkFollowing_quiet _ _ he]
  exact if_pos rfl |>.trans hreport

/-- A step that is not the second of a turn only counts (R143). -/
theorem State.followStep_counts (s : State)
    (h : s.follow.turning ≠ some 1 ∨ (s.follow.stepped s.gen.dir).payCount = 0) :
    s.followStep = s.setFollow (s.follow.stepped s.gen.dir) := by
  refine if_neg fun ⟨_, hturning, hcount⟩ => ?_
  exact h.elim (fun hne => hne hturning) hcount

/-- The second step of a turn goes over to Ft for the steps left (R144). -/
theorem State.followStep_turns (s : State) (hf : s.follow.phase = .tracking) (ht : s.follow.turning = some 1)
    (hc : (s.follow.stepped s.gen.dir).payCount ≠ 0) : s.followStep =
      (s.setFollow (s.follow.stepped s.gen.dir)).setGen (s.gen.orderFlat s.cfg s.gen.dir s.activeProfile
        s.activeProfile.ft (some (s.follow.stepped s.gen.dir).payCount)) := if_pos ⟨hf, ht, hc⟩

theorem State.activeProfile_some (s : State) (a : Active) (ha : s.seq.active = some a) :
    s.activeProfile = a.work.profile := by rw [State.activeProfile, ha]

/-! ### The end of a payment (R143, R146) -/

theorem Follow.boundReached_iff (f : Follow) : f.boundReached = true ↔ ∃ b, f.countBound = some b ∧ b ≤ f.followed := by
  unfold Follow.boundReached
  split <;> simp_all

theorem Follow.boundReached_of_none (f : Follow) (h : ∀ b, f.countBound = some b → f.followed < b) :
    f.boundReached = false := by
  rw [Bool.eq_false_iff]
  intro hreached
  obtain ⟨b, hb, hle⟩ := f.boundReached_iff.1 hreached
  exact absurd (h b hb) (Nat.not_lt.2 hle)

theorem State.paymentEnd_stands (s : State) (h : s.follow.boundReached = false) :
    s.paymentEnd = (s.setGen s.gen.ceased).setFollow { s.follow with turning := none } := by
  unfold State.paymentEnd
  simp only [h, Bool.false_eq_true, if_false]

/-- The step that reaches the count bound ends the record DONE (R146). -/
theorem State.paymentEnd_done (s : State) (a : Active) (ha : s.seq.active = some a)
    (hk : a.work.kind = .follow) (hf : a.faultEnded = false) (h : s.follow.boundReached = true) :
    s.paymentEnd = s.stilled (s.seq.ended .idle a.work.tag .done) := by
  have hactive : ((s.setGen s.gen.ceased).setFollow .reset).seq.active = some a := ha
  unfold State.paymentEnd
  simp only [h, if_true]
  rw [State.completeWork_done _ a hactive hf (.inl (by rw [hk]; rfl)), State.endRecord_some _ _ a hactive]
  rfl

/-- A FOLLOW that ends DONE with no work waiting leaves the station in IDLE (R28). -/
theorem State.enterIdle_stilled (before s : State) (q : Sequencer) (hb : before.station ≠ .idle)
    (hq : q.station = .idle) (hw : s.noWork) : before.enterIdle (s.stilled q) = s.stilled q :=
  (before.enterIdle_entered (s.stilled q) hq hb).trans (State.dispatch_noWork_idle (s.stilled q) hw hq)

/-! ### The first step of a payment (R71, R143 to R145) -/

/-- A flat run that has emitted its first step (R71). -/
def Run.flatBegun (p : Profile) (rate count : Nat) : Run :=
  ⟨.flat, some count, 1, p, p.fs, rate, 1, false, rate⟩

/-- The station after the first step of a payment (R143, R144). -/
def State.paid (s : State) (a : Active) (d : Side) (rate : Nat) (turning : Option Nat) : State :=
  (s.setFollow (Follow.stepped { s.follow with turning := turning } d)).setGen
    (s.gen.stepped s.cfg d .flat rate (.flatBegun a.work.profile rate s.follow.payCount))

section

variable (s : State) (a : Active) (d : Side) (rate : Nat) (turning : Option Nat)

theorem State.beginPayment_limited (h : s.limitActive d = true) :
    s.beginPayment d rate turning = s.failFollow (limitFault d) := if_pos h

variable (ha : s.seq.active = some a) (hk : a.work.kind = .follow) (hw : s.cfg.followingWindow = 0)
  (ht : turning ≠ some 1) (hl : s.limitActive d = false)

include ha hk hw ht hl

/-- The first step of a payment is emitted at once, and its run goes on or ends with it (R71, R143). -/
theorem State.beginPayment_paid : s.beginPayment d rate turning =
    if s.follow.payCount ≤ 1 then (s.paid a d rate turning).paymentEnd else s.paid a d rate turning := by
  generalize hu : (s.setFollow { s.follow with turning := turning }).orderPayment d rate = u
  generalize hr : Run.flatAt rate (some s.follow.payCount) a.work.profile = r
  have hgen : u.gen = s.gen.orderFlat s.cfg d a.work.profile rate (some s.follow.payCount) := by
    rw [← hu, ← s.activeProfile_some a ha]
    rfl
  have hrun : u.gen.run = some r := by rw [hgen, ← hr]; rfl
  have hfollow : u.follow = { s.follow with turning := turning } := by rw [← hu]; rfl
  have hdir : u.gen.dir = d := by rw [hgen]; rfl
  have hactive : u.seq.active = some a := by rw [← hu]; exact ha
  have hwindow : u.cfg.followingWindow = 0 := by rw [← hu]; exact hw
  have hemit : u.emitStep = (u.setGen (u.gen.emitted r)).setFollow (u.follow.stepped d) := by
    rw [u.emitStep_follow a r hactive hk hrun (State.errorBeyond_of_noWindow _ hwindow)]
    have hcounts := State.followStep_counts (u.setGen (u.gen.emitted r))
      (.inl (by rw [State.setGen_follow, hfollow]; exact ht))
    refine hcounts.trans ?_
    have hside : (u.setGen (u.gen.emitted r)).gen.dir = d := hdir
    rw [hside]
    rfl
  have hpaid : u.emitStep = s.paid a d rate turning := by
    rw [hemit, hfollow]
    have hemitted : u.gen.emitted r =
        s.gen.stepped s.cfg d .flat rate (.flatBegun a.work.profile rate s.follow.payCount) := by
      rw [hgen, ← hr]
      cases d <;> rfl
    rw [hemitted, ← hu]
    rfl
  have hscheduled : (s.paid a d rate turning).scheduleNext = s.paid a d rate turning := rfl
  have hpay : u.payFirst =
      if (Run.flatBegun a.work.profile rate s.follow.payCount).ended then (s.paid a d rate turning).paymentEnd
      else (s.paid a d rate turning).scheduleNext := by
    unfold State.payFirst
    simp only [hpaid]
    rfl
  have hended : (Run.flatBegun a.work.profile rate s.follow.payCount).ended = decide (s.follow.payCount ≤ 1) := rfl
  rw [State.beginPayment, if_neg (by simp [hl]), hu, hpay, hended, hscheduled]
  simp only [decide_eq_true_eq]

end

end Sys2Proof.Machine

/-! ## Proofs: the conversion of a STATUS of the leader, and the steps of a FOLLOW (O53) -/

namespace Sys2Proof.Machine

/-! ### A STATUS of the leader (R141, R177) -/

/-- A STATUS of a tracked leader whose vector is the table's own, at a station without a barrier. -/
theorem exec_status_converts (s : State) (dest : Byte) (body : List Byte) (p : PeerStatus)
    (hl : s.link.state = .joined) (hs : s.station = .running) (hf : s.follow.phase = .tracking)
    (ho : s.follow.leader ≠ s.own) (hbody : statusOf body = some p) (hv : s.agrees p)
    (hb : s.barrier = none) : exec (.status s.follow.leader dest body) s =
      .next (s.enterIdle ((s.setPeer s.follow.leader
        { s.peer s.follow.leader with status := some p }).convertLeader p.position)) := by
  generalize hheard : s.setPeer s.follow.leader { s.peer s.follow.leader with status := some p } = heard
  have htaken : s.takeStatus s.follow.leader body = s.readStatus s.follow.leader p := by
    rw [State.takeStatus, hbody]
    exact if_neg ho
  have hadopted : heard.adopt p s.follow.leader = heard :=
    heard.adopt_of_agrees p _ (by rw [← hheard]; exact hv)
  have hunread : heard.readStatusOf s.follow.leader = heard :=
    heard.readStatusOf_unread _ fun b hbarrier => by
      rw [← hheard] at hbarrier
      cases hb.symm.trans hbarrier
  have hconverts : heard.followStatus s.follow.leader p.position =
      heard.enterIdle (heard.convertLeader p.position) := by
    refine if_pos ⟨?_, by rw [← hheard]; rfl⟩
    rw [← hheard]
    exact Bool.and_eq_true_iff.2 ⟨decide_eq_true hf, decide_eq_true hs⟩
  have hbefore : heard.enterIdle (heard.convertLeader p.position) =
      s.enterIdle (heard.convertLeader p.position) := by
    rw [← hheard]
    rfl
  have hexec : exec (.status s.follow.leader dest body) s = .next (s.takeStatus s.follow.leader body) :=
    congrArg Host.Outcome.next (if_pos (by simp [State.takesStatus, hl]))
  rw [hexec, htaken, State.readStatus, hheard, hadopted, hunread, hconverts, hbefore]

section

variable (s : State) (p : Position)

theorem State.convertLeader_overruns (h : s.cfg.catchUp < (s.follow.convert p).owed.natAbs) :
    s.convertLeader p = (s.setFollow (s.follow.convert p)).failFollow .followOverrun := if_pos h

theorem State.convertLeader_owesTheSame (hc : (s.follow.convert p).owed.natAbs ≤ s.cfg.catchUp)
    (h : (s.follow.convert p).owed = s.follow.owed) : s.convertLeader p = s.setFollow (s.follow.convert p) :=
  (if_neg (Nat.not_lt.2 hc)).trans (if_pos h)

theorem State.convertLeader_pays (hc : (s.follow.convert p).owed.natAbs ≤ s.cfg.catchUp)
    (h : (s.follow.convert p).owed ≠ s.follow.owed) :
    s.convertLeader p = (s.setFollow (s.follow.convert p)).pay :=
  (if_neg (Nat.not_lt.2 hc)).trans (if_neg h)

end

/-- A fault of the Follow Unit that ends the record at once (R142, R145). -/
theorem State.failFollow_ends (s : State) (k : FaultKind) (a : Active) (ha : s.seq.active = some a)
    (hs : s.station = .running) (hi : k.immediate = true) (hh : k.clearsHomed = false) :
    (s.failFollow k).seq = s.seq.ended .faulted a.work.tag .faulted ∧ (s.failFollow k).gen = s.gen.ceased ∧
    (s.failFollow k).follow = .reset ∧ (s.failFollow k).stack = s.stack ∧
    (s.failFollow k).faults = s.faults.record ⟨k, s.link.cycle, some a.work.tag, s.gen.position⟩ := by
  have hhomed : s.homedAfter k = s.seq.homed := by simp [State.homedAfter, hh]
  have hfault := State.recordFault_endsRunning
    (s.setFollow { s.follow with phase := .ceased, owed := 0, turning := none }) k
    (some a.work.tag) a ha hs (.inl hi)
  have hfail : s.failFollow k = _ := (congrArg (State.recordFault _ k) (State.activeTag_some
    (s.setFollow { s.follow with phase := .ceased, owed := 0, turning := none }) a ha)).trans hfault
  rw [hfail]
  exact ⟨congrArg (fun h => { s.seq.ended .faulted a.work.tag .faulted with homed := h }) hhomed, rfl, rfl, rfl, rfl⟩

/-! ### The payment that the new owed calls for (R143) -/

section

variable (s : State)

theorem State.pay_owesNothing (h : s.follow.owed = 0) : s.pay =
    match s.gen.run with
    | none => s
    | some _ => s.stopPaying := by
  unfold State.pay
  cases s.gen.run <;> simp [h]

theorem State.pay_goesOn (r : Run) (hr : s.gen.run = some r) (h0 : s.follow.owed ≠ 0)
    (hd : s.gen.dir = sideOf s.follow.owed) : s.pay = s.orderPayment (sideOf s.follow.owed) r.baseRate := by
  unfold State.pay
  simp [hr, h0, hd]

/-- The payment turns: a run goes the other way, or the last step did (R144). -/
abbrev State.turns (s : State) (d : Side) : Prop := s.gen.run ≠ none ∨ s.follow.lastDir = some (opposite d)

theorem State.pay_begins (h0 : s.follow.owed ≠ 0)
    (hd : s.gen.run = none ∨ s.gen.dir ≠ sideOf s.follow.owed) :
    s.pay = s.beginPayment (sideOf s.follow.owed)
      (if s.turns (sideOf s.follow.owed) then s.activeProfile.fs else s.activeProfile.ft)
      (if s.turns (sideOf s.follow.owed) then some 0 else none) := by
  unfold State.pay State.turns
  cases hr : s.gen.run with
  | none =>
    by_cases hlast : s.follow.lastDir = some (opposite (sideOf s.follow.owed)) <;> simp [h0, State.turn, hlast]
  | some r =>
    have hne : s.gen.dir ≠ sideOf s.follow.owed := hd.resolve_left (by simp [hr])
    simp [h0, hne, State.turn]

end

end Sys2Proof.Machine

/-! ## Proofs: O53 -/

namespace Sys2Proof.Machine

theorem owedAfter_toward (n : Int) (h : n ≠ 0) :
    owedAfter n (sideOf n) = if 0 < n then n - 1 else n + 1 := by
  unfold sideOf
  by_cases hpos : 0 < n
  · simp [hpos, owedAfter]
  · rw [if_neg hpos, if_neg hpos]
    exact if_pos (by omega)

theorem owedAfter_eq (n : Int) (d : Side) : owedAfter n d = match d with
    | .pos => if 0 < n then n - 1 else n
    | .neg => if n < 0 then n + 1 else n := by
  cases d <;> rfl

theorem limitFault_eq (d : Side) : limitFault d = match d with
    | .pos => .limitPos
    | .neg => .limitNeg := by
  cases d <;> rfl

theorem Follow.payCount_eq (f : Follow) : f.payCount = match f.countBound with
    | none => f.owed.natAbs
    | some b => min f.owed.natAbs (b - f.followed) := by
  unfold Follow.payCount
  cases f.countBound <;> rfl

/-- The flat rate goes on (R71). -/
theorem Gen.schedule_flat (g : Gen) (r : Run) (hp : g.phase = .flat) (hr : g.run = some r) :
    g.schedule = { g with run := some { r with nextRate := r.baseRate } } := by
  unfold Gen.schedule
  simp only [hr, hp]

theorem Gen.ceased_of_standing (g : Gen) (hp : g.phase = .standstill) (hrate : g.rate = 0)
    (hr : g.run = none) : g.ceased = g := by
  rw [Gen.ceased, ← hp, ← hrate, ← hr]

section

variable (s : State) (a : Active) (p : Position) (ha : s.seq.active = some a) (hs : s.station = .running)
  (hc : (s.follow.convert p).owed.natAbs ≤ s.cfg.catchUp)
  (hne : (s.follow.convert p).owed ≠ s.follow.owed)

include hc hne

/-- Owed has returned to 0: the run stops (R143). -/
theorem State.convertLeader_stops (hg : s.genOk) (h0 : (s.follow.convert p).owed = 0) :
    s.convertLeader p = (s.setGen s.gen.ceased).setFollow
      (if s.gen.run = none then s.follow.convert p else { s.follow.convert p with turning := none }) := by
  rw [s.convertLeader_pays p hc hne, State.pay_owesNothing (s.setFollow (s.follow.convert p)) h0]
  cases hr : s.gen.run with
  | some r => simp only [State.setFollow_gen, hr]; rfl
  | none =>
    rw [if_pos rfl, s.gen.ceased_of_standing (hg.1.2 hr) (hg.2 hr) hr]
    simp only [State.setFollow_gen, hr]
    rfl

include ha

/-- A payment goes on in its direction with a new count (R143). -/
theorem State.convertLeader_goesOn (r : Run) (hr : s.gen.run = some r) (h0 : (s.follow.convert p).owed ≠ 0)
    (hd : s.gen.dir = sideOf (s.follow.convert p).owed) : s.convertLeader p =
      (s.setFollow (s.follow.convert p)).setGen { s.gen with
        phase := .flat
        dirHigh := dirLevel s.cfg (sideOf (s.follow.convert p).owed)
        run := some (.flatAt r.baseRate (some (s.follow.convert p).payCount) a.work.profile) } := by
  rw [s.convertLeader_pays p hc hne, State.pay_goesOn (s.setFollow (s.follow.convert p)) r hr h0 hd,
    ← s.activeProfile_some a ha, ← hd]
  have hsame : (s.setFollow (s.follow.convert p)).follow.owed = (s.follow.convert p).owed := rfl
  rw [hsame, ← hd]
  rfl

/-- A payment begins, from standstill or as a turn (R143, R144). -/
theorem State.convertLeader_begins (h0 : (s.follow.convert p).owed ≠ 0)
    (hd : s.gen.run = none ∨ s.gen.dir ≠ sideOf (s.follow.convert p).owed) : s.convertLeader p =
      (s.setFollow (s.follow.convert p)).beginPayment (sideOf (s.follow.convert p).owed)
        (if s.turns (sideOf (s.follow.convert p).owed) then a.work.profile.fs else a.work.profile.ft)
        (if s.turns (sideOf (s.follow.convert p).owed) then some 0 else none) := by
  rw [s.convertLeader_pays p hc hne, State.pay_begins (s.setFollow (s.follow.convert p)) h0 hd,
    ← s.activeProfile_some a ha]
  rfl

end

/-- The Follow Unit after the first step of a payment (R143, R144). -/
theorem Follow.stepped_begun (f : Follow) (h0 : f.owed ≠ 0) (turns : Prop) [Decidable turns] :
    Follow.stepped { f with turning := if turns then some 0 else none } (sideOf f.owed) =
      { f with
        followed := f.counted, lastDir := some (sideOf f.owed)
        owed := if 0 < f.owed then f.owed - 1 else f.owed + 1
        turning := if turns then some 1 else none } := by
  rw [← owedAfter_toward f.owed h0]
  by_cases h : turns
  · rw [if_pos h, if_pos h]
    rfl
  · rw [if_neg h, if_neg h]
    rfl

section

variable (s : State) (a : Active) (dest : Byte) (body : List Byte) (p : PeerStatus)
  (hl : s.link.state = .joined) (hs : s.station = .running) (ha : s.seq.active = some a)
  (hf : s.follow.phase = .tracking) (ho : s.follow.leader ≠ s.own)
  (hbody : statusOf body = some p) (hv : s.agrees p) (hb : s.barrier = none)

include hl hs hf ho hbody hv hb

/-- A conversion that leaves the record running, or ends it with a fault. -/
theorem exec_status_converts_to (t : State)
    (ht : (s.setPeer s.follow.leader { s.peer s.follow.leader with status := some p }).convertLeader
      p.position = t) (hstation : t.station ≠ .idle) : exec (.status s.follow.leader dest body) s = .next t := by
  rw [exec_status_converts s dest body p hl hs hf ho hbody hv hb, ht, s.enterIdle_other t hstation]

include ha

/-- A conversion that the Follow Unit answers with a fault that stops at once (R142, R145). -/
theorem exec_status_fails (k : FaultKind) (hi : k.immediate = true) (hh : k.clearsHomed = false)
    (ht : (s.setPeer s.follow.leader { s.peer s.follow.leader with status := some p }).convertLeader p.position =
      ((s.setPeer s.follow.leader { s.peer s.follow.leader with status := some p }).setFollow
        (s.follow.convert p.position)).failFollow k) :
    ∃ t, exec (.status s.follow.leader dest body) s = .next t ∧
      t.seq = s.seq.ended .faulted a.work.tag .faulted ∧ t.gen = s.gen.ceased ∧ t.follow = .reset ∧
      t.stack = s.stack ∧
      t.faults = s.faults.record ⟨k, s.link.cycle, some a.work.tag, s.gen.position⟩ := by
  obtain ⟨hseq, hgen, hfollow, hstack, hfaults⟩ := State.failFollow_ends
    ((s.setPeer s.follow.leader { s.peer s.follow.leader with status := some p }).setFollow
      (s.follow.convert p.position)) k a ha hs hi hh
  refine ⟨_, exec_status_converts_to s dest body p hl hs hf ho hbody hv hb _ ht ?_, hseq, hgen, hfollow, hstack,
    hfaults⟩
  rw [State.station, hseq]
  exact Station.noConfusion

end

/-! ### The steps of a payment (R143, R144, R146) -/

section

variable (s : State) (a : Active) (r : Run) (ha : s.seq.active = some a) (hk : a.work.kind = .follow)
  (hw : s.cfg.followingWindow = 0) (hr : s.gen.run = some r)
  (hs : s.station = .running ∨ s.station = .stopping)

include ha hk hw hr hs

theorem exec_stepDue_follow : exec .stepDue s =
    .next (s.enterIdle (s.setGen (s.gen.emitted r)).followStep.afterStep) := by
  rw [exec_stepDue_run s r hr hs, State.stepRun,
    s.emitStep_follow a r ha hk hr (State.errorBeyond_of_noWindow _ hw)]

/-- A step that is not the second of a turn (R143). -/
theorem exec_stepDue_follow_counts
    (h : s.follow.turning ≠ some 1 ∨ (s.follow.stepped s.gen.dir).payCount = 0) : exec .stepDue s =
      .next (s.enterIdle ((s.setGen (s.gen.emitted r)).setFollow (s.follow.stepped s.gen.dir)).afterStep) :=
  (exec_stepDue_follow s a r ha hk hw hr hs).trans (congrArg (fun t : State => Host.Outcome.next (s.enterIdle t.afterStep))
    (State.followStep_counts (s.setGen (s.gen.emitted r)) h))

/-- A step of a payment that goes on (R143). -/
theorem exec_stepDue_paysOn (n : Nat) (hcount : r.count = some n) (hwatch : r.commitWatch = false)
    (hn : r.emitted + 1 < n) (hflat : s.gen.phase = .flat) (ht : s.follow.turning = none) :
    exec .stepDue s = .next ((s.setFollow (s.follow.stepped s.gen.dir)).setGen { s.gen with
      rate := r.nextRate, position := stepFrom s.gen.position s.gen.dir
      run := some { r.stepped with nextRate := r.baseRate } }) := by
  have hphase : (s.gen.emitted r).phase = .flat := by
    rw [s.gen.emitted_phase_eq r (by simp [hflat]), hflat]
  have hended : r.stepped.ended = false := by
    rw [r.stepped_ended n hcount]
    exact decide_eq_false (by omega)
  have hafter := State.afterStep_goesOn ((s.setGen (s.gen.emitted r)).setFollow (s.follow.stepped s.gen.dir))
    r.stepped rfl hended (fun hb => absurd (hphase.symm.trans hb) (by simp)) hwatch
  have hnext : ((s.setGen (s.gen.emitted r)).setFollow (s.follow.stepped s.gen.dir)).scheduleNext =
      (s.setFollow (s.follow.stepped s.gen.dir)).setGen (s.gen.emitted r).schedule := rfl
  have hrest : s.gen.emitted r = { s.gen with
      rate := r.nextRate, position := stepFrom s.gen.position s.gen.dir, run := some r.stepped } := by
    rw [Gen.emitted, if_neg (by simp [hflat])]
  rw [exec_stepDue_follow_counts s a r ha hk hw hr hs (.inl (by simp [ht])), hafter, hnext,
    s.enterIdle_same ((s.setFollow (s.follow.stepped s.gen.dir)).setGen (s.gen.emitted r).schedule) rfl,
    (s.gen.emitted r).schedule_flat r.stepped hphase rfl, hrest]
  rfl

/-- The second step of a turn: the run goes over to Ft for the steps left (R144). -/
theorem exec_stepDue_turnsOver (hf : s.follow.phase = .tracking) (ht : s.follow.turning = some 1)
    (hc : (s.follow.stepped s.gen.dir).payCount ≠ 0) : exec .stepDue s =
      .next ((s.setFollow (s.follow.stepped s.gen.dir)).setGen
        ((s.gen.emitted r).orderFlat s.cfg s.gen.dir a.work.profile a.work.profile.ft
          (some (s.follow.stepped s.gen.dir).payCount))) := by
  generalize horder : (s.gen.emitted r).orderFlat s.cfg s.gen.dir a.work.profile a.work.profile.ft
    (some (s.follow.stepped s.gen.dir).payCount) = g
  have hturned : (s.setGen (s.gen.emitted r)).followStep =
      (s.setFollow (s.follow.stepped s.gen.dir)).setGen g := by
    rw [← horder, ← s.activeProfile_some a ha]
    exact State.followStep_turns (s.setGen (s.gen.emitted r)) hf ht hc
  have hphase : g.phase = .flat := by rw [← horder]; rfl
  have hrun : g.run = some (.flatAt a.work.profile.ft (some (s.follow.stepped s.gen.dir).payCount) a.work.profile) := by
    rw [← horder]; rfl
  have hended : (Run.flatAt a.work.profile.ft (some (s.follow.stepped s.gen.dir).payCount) a.work.profile).ended = false :=
    decide_eq_false (Nat.not_le.2 (Nat.pos_of_ne_zero hc))
  have hafter := State.afterStep_goesOn ((s.setFollow (s.follow.stepped s.gen.dir)).setGen g) _ hrun hended
    (fun hb => absurd (hphase.symm.trans hb) (by simp)) rfl
  have hschedule : ((s.setFollow (s.follow.stepped s.gen.dir)).setGen g).scheduleNext =
      (s.setFollow (s.follow.stepped s.gen.dir)).setGen g := by
    have hsame := g.schedule_flat _ hphase hrun
    have hkept : g.schedule = g := by rw [hsame, ← horder]; rfl
    rw [State.scheduleNext, State.setGen_gen, hkept]
    rfl
  rw [exec_stepDue_follow s a r ha hk hw hr hs, hturned, hafter, hschedule,
    s.enterIdle_same ((s.setFollow (s.follow.stepped s.gen.dir)).setGen g) rfl]

/-- The last step of a payment (R143, R146). -/
theorem exec_stepDue_paysLast (n : Nat) (hcount : r.count = some n) (hn : r.emitted + 1 = n)
    (ht : s.follow.turning = none ∨ (s.follow.stepped s.gen.dir).payCount = 0)
    (hend : (s.follow.stepped s.gen.dir).boundReached = true ∨ a.disposition = none) : exec .stepDue s =
      .next (s.enterIdle ((s.setGen (s.gen.emitted r)).setFollow (s.follow.stepped s.gen.dir)).paymentEnd) := by
  have hended : r.stepped.ended = true := by
    rw [r.stepped_ended n hcount]
    exact decide_eq_true (by omega)
  generalize ht' : (s.setGen (s.gen.emitted r)).setFollow (s.follow.stepped s.gen.dir) = t
  have hafter : t.afterStep = t.lastStep r.stepped := t.afterStep_ended r.stepped (by rw [← ht']; rfl) hended
  have hactive : t.seq.active = some a := by rw [← ht']; exact ha
  have hlast : t.lastStep r.stepped = t.paymentEnd := by
    unfold State.lastStep
    simp only [hactive, hk]
    refine if_pos ?_
    rw [← ht']
    exact hend
  rw [exec_stepDue_follow_counts s a r ha hk hw hr hs (ht.imp (fun h => by simp [h]) id), ht', hafter, hlast]

end

/-- The steps of a payment, as O53 lays them out. -/
theorem exec_stepDue_pays (s : State) (a : Active) (r : Run) (n : Nat) (ha : s.seq.active = some a)
    (hk : a.work.kind = .follow) (hw : s.cfg.followingWindow = 0) (hr : s.gen.run = some r)
    (hcount : r.count = some n) (hwatch : r.commitWatch = false) (position : Position) (owed : Int)
    (left : Nat) (hposition : stepFrom s.gen.position s.gen.dir = position)
    (howed : owedAfter s.follow.owed s.gen.dir = owed)
    (hleft : (s.follow.stepped s.gen.dir).payCount = left) :
    (s.station = .running → s.follow.phase = .tracking → s.gen.phase = .flat → r.emitted + 1 < n →
      (s.follow.turning = none → exec .stepDue s = .next { s with
        follow := { s.follow with
          followed := s.follow.counted, lastDir := some s.gen.dir, owed := owed, turning := none }
        gen := { s.gen with
          rate := r.nextRate, position := position
          run := some { r with
            emitted := r.emitted + 1, baseSteps := r.baseSteps + 1, nextRate := r.baseRate } } }) ∧
      (s.follow.turning = some 1 → left ≠ 0 → exec .stepDue s = .next { s with
        follow := { s.follow with
          followed := s.follow.counted, lastDir := some s.gen.dir, owed := owed, turning := none }
        gen := s.gen.stepped s.cfg s.gen.dir .flat r.nextRate
          ⟨.flat, some left, 0, a.work.profile, a.work.profile.fs, a.work.profile.ft, 0, false,
            a.work.profile.ft⟩ })) ∧
    (s.station = .running ∨ s.station = .stopping → r.emitted + 1 = n →
      s.follow.turning = none ∨ left = 0 →
      (s.follow.countBound = some s.follow.counted → a.faultEnded = false → s.noWork →
        exec .stepDue s = .next { s with
          seq := s.seq.ended .idle a.work.tag .done
          gen := { s.gen.ceased with position := position }
          homing := .reset, follow := .reset
          encoder := { s.encoder with settle := none }, barrier := none }) ∧
      (s.station = .running → a.disposition = none →
        (∀ b, s.follow.countBound = some b → s.follow.counted < b) →
        exec .stepDue s = .next { s with
          follow := { s.follow with
            followed := s.follow.counted, lastDir := some s.gen.dir, owed := owed, turning := none }
          gen := { s.gen.ceased with position := position } })) := by
  subst hposition howed hleft
  refine ⟨fun hs hf hflat hn => ⟨fun ht => ?_, fun ht hc => ?_⟩, fun hs hn ht => ⟨fun hb hfault hwork => ?_,
    fun hs' hd hb => ?_⟩⟩
  · rw [exec_stepDue_paysOn s a r ha hk hw hr (.inl hs) n hcount hwatch hn hflat ht, Follow.stepped, ht]
    rfl
  · rw [exec_stepDue_turnsOver s a r ha hk hw hr (.inl hs) hf ht hc]
    have hstepped : s.follow.stepped s.gen.dir = { s.follow with
        followed := s.follow.counted, lastDir := some s.gen.dir
        owed := owedAfter s.follow.owed s.gen.dir, turning := none } := by
      rw [Follow.stepped, ht]
      rfl
    have hgen : (s.gen.emitted r).orderFlat s.cfg s.gen.dir a.work.profile a.work.profile.ft
        (some (s.follow.stepped s.gen.dir).payCount) = s.gen.stepped s.cfg s.gen.dir .flat r.nextRate
          ⟨.flat, some (s.follow.stepped s.gen.dir).payCount, 0, a.work.profile, a.work.profile.fs,
            a.work.profile.ft, 0, false, a.work.profile.ft⟩ := by
      cases hdir : s.gen.dir <;> simp only [Gen.orderFlat, Gen.emitted, Gen.turned, hdir] <;> rfl
    rw [hgen, hstepped]
    rfl
  · have hreached : (s.follow.stepped s.gen.dir).boundReached = true :=
      (Follow.boundReached_iff _).2 ⟨_, hb, le_refl _⟩
    have hbusy : s.station ≠ .idle := by rcases hs with h | h <;> simp [h]
    rw [exec_stepDue_paysLast s a r ha hk hw hr hs n hcount hn ht (.inl hreached),
      State.paymentEnd_done ((s.setGen (s.gen.emitted r)).setFollow (s.follow.stepped s.gen.dir)) a ha hk hfault
        hreached,
      s.enterIdle_stilled ((s.setGen (s.gen.emitted r)).setFollow (s.follow.stepped s.gen.dir)) _ hbusy rfl hwork]
    rfl
  · have hopen : (s.follow.stepped s.gen.dir).boundReached = false := Follow.boundReached_of_none _ hb
    rw [exec_stepDue_paysLast s a r ha hk hw hr hs n hcount hn ht (.inr hd),
      State.paymentEnd_stands ((s.setGen (s.gen.emitted r)).setFollow (s.follow.stepped s.gen.dir)) hopen]
    exact congrArg Host.Outcome.next (s.enterIdle_other _ (by
      have hrunning : (((s.setGen (s.gen.emitted r)).setFollow (s.follow.stepped s.gen.dir))).station = .running := hs'
      exact fun h => Station.noConfusion (hrunning.symm.trans h)))

theorem State.stilled_of_noBarrier (s : State) (q : Sequencer) (h : s.barrier = none) : s.stilled q = { s with
    gen := s.gen.ceased, homing := .reset, follow := .reset
    encoder := { s.encoder with settle := none }, seq := q } := by
  rw [State.stilled, ← h]

/-- The first step of a payment that a conversion begins, by what it finds (R143 to R146). -/
theorem State.convertLeader_pays_first (s : State) (a : Active) (p : Position) (ha : s.seq.active = some a)
    (hk : a.work.kind = .follow) (hw : s.cfg.followingWindow = 0)
    (hc : (s.follow.convert p).owed.natAbs ≤ s.cfg.catchUp)
    (hne : (s.follow.convert p).owed ≠ s.follow.owed) (h0 : (s.follow.convert p).owed ≠ 0) (d : Side)
    (hside : sideOf (s.follow.convert p).owed = d) (hd : s.gen.run = none ∨ s.gen.dir ≠ d)
    (hlimit : s.limitActive d = false) (rate : Nat)
    (hrate : (if s.turns d then a.work.profile.fs else a.work.profile.ft) = rate) (paid : State)
    (hpaid : { s with
      follow := { s.follow.convert p with
        followed := (s.follow.convert p).counted, lastDir := some d
        owed := if 0 < (s.follow.convert p).owed then (s.follow.convert p).owed - 1
          else (s.follow.convert p).owed + 1
        turning := if s.turns d then some 1 else none }
      gen := s.gen.stepped s.cfg d .flat rate
        (.flatBegun a.work.profile rate (s.follow.convert p).payCount) } = paid) :
    s.convertLeader p = if (s.follow.convert p).payCount ≤ 1 then paid.paymentEnd else paid := by
  subst hside hrate
  have hturning : (if s.turns (sideOf (s.follow.convert p).owed) then some 0 else none) ≠ some 1 := by
    split <;> simp
  rw [s.convertLeader_begins a p ha hc hne h0 hd, State.beginPayment_paid (s.setFollow (s.follow.convert p)) a _ _ _
    ha hk hw hturning hlimit, State.paid, State.setFollow_follow,
    (s.follow.convert p).stepped_begun h0, ← hpaid]
  rfl

/-- Settles O53: the conversion, then the payment that it calls for, then the steps of the payment. -/
theorem followerConvertsWithoutLoss : Obligations.FollowerConvertsWithoutLoss := by
  refine ⟨fun f p hd => ?_, Follow.counted_eq, fun f ps hd hr => Follow.converts_account ps f hd hr,
    fun s a dest body p hl hs ha hk hf ho hbody hv hb hover => ?_,
    fun s a dest body p hl hs ha hk hf ho hbody hv hb hg => ?_,
    fun s a r n ha hk hw hr hcount hwatch => ?_⟩
  · exact ⟨f.convert_accounts p, f.convert_remainder_lt p hd, (f.convert_remainder_sign p).1,
      (f.convert_remainder_sign p).2, rfl⟩
  · obtain ⟨t, hexec, hseq, hgen, hfollow, hstack, hfaults⟩ := exec_status_fails s a dest body p hl hs ha hf ho hbody
      hv hb .followOverrun rfl rfl (State.convertLeader_overruns _ p.position hover)
    exact ⟨t, hexec, hseq, hfaults ▸ (FaultLog.record_spec _ _).1, hgen, hfollow, hstack⟩
  · intro f hcatch told heard profile d count
    have hside : d = sideOf f.owed := rfl
    have hcount : f.payCount = count := f.payCount_eq
    have hto := exec_status_converts_to s dest body p hl hs hf ho hbody hv hb
    have hrunning : heard.station ≠ .idle := by
      have hstation : heard.station = .running := hs
      simp [hstation]
    refine ⟨fun hsame => hto _ (State.convertLeader_owesTheSame heard p.position hcatch hsame) hrunning,
      fun hne h0 => hto _ (State.convertLeader_stops heard p.position hcatch hne hg h0) hrunning,
      fun r hne h0 hr hdir => ?_, fun hne h0 hbegins => ?_⟩
    · refine (hto _ (State.convertLeader_goesOn heard a p.position ha hcatch hne r hr h0 (hdir.trans hside)) hrunning).trans ?_
      rw [← hside, dirLevel_eq, hcount]
      rfl
    · intro turn rate stepped paid
      let begun : State := { heard with
        follow := { f with
          followed := f.counted, lastDir := some d
          owed := if 0 < f.owed then f.owed - 1 else f.owed + 1
          turning := if turn then some 1 else none }
        gen := stepped }
      have hpays : s.limitActive d = false → s.cfg.followingWindow = 0 →
          heard.convertLeader p.position = if count ≤ 1 then begun.paymentEnd else begun := by
        intro hlimit hw
        have hstepped : stepped = s.gen.stepped s.cfg d .flat rate (.flatBegun a.work.profile rate f.payCount) := by
          rw [hcount]
          rfl
        rw [← hcount]
        refine State.convertLeader_pays_first heard a p.position ha hk hw hcatch hne h0 d hside.symm hbegins
          hlimit rate rfl begun ?_
        exact congrArg (fun g => { begun with gen := g }) hstepped.symm
      refine ⟨fun hlimit => ?_, fun hlimit hw => ⟨fun h2 => ?_, fun h1 hopen => ?_, fun h1 hb' hfault hwork => ?_⟩⟩
      · have hbegun := State.convertLeader_begins heard a p.position ha hcatch hne h0 hbegins
        obtain ⟨t, hexec, hseq, hgen, hfollow, hstack, hfaults⟩ := exec_status_fails s a dest body p hl hs ha hf ho
          hbody hv hb (limitFault d) (by cases d <;> rfl) (by cases d <;> rfl)
          (hbegun.trans (State.beginPayment_limited _ d _ _ hlimit))
        exact ⟨t, hexec, hseq, hgen, hfollow, hfaults.trans (congrArg (fun k => s.faults.record
          ⟨k, s.link.cycle, some a.work.tag, s.gen.position⟩) (limitFault_eq d))⟩
      · have hfirst := hpays hlimit hw
        rw [if_neg (by omega)] at hfirst
        have hpaid : paid = begun.follow :=
          congrArg (fun x => { begun.follow with turning := x }) (if_congr (and_iff_left (by omega)) rfl rfl)
        rw [hpaid]
        exact hto _ hfirst hrunning
      · have hopened : begun.follow.boundReached = false := Follow.boundReached_of_none _ hopen
        have hfirst := hpays hlimit hw
        rw [if_pos (by omega), begun.paymentEnd_stands hopened] at hfirst
        have hpaid : paid = { begun.follow with turning := none } :=
          congrArg (fun x => { begun.follow with turning := x }) (if_neg fun h => h.2 h1)
        rw [hpaid]
        exact hto _ hfirst hrunning
      · have hreached : begun.follow.boundReached = true := (Follow.boundReached_iff _).2 ⟨_, hb', le_refl _⟩
        have hfirst := hpays hlimit hw
        rw [if_pos (by omega), begun.paymentEnd_done a ha hk hfault hreached] at hfirst
        have hbusy : s.station ≠ .idle := by simp [hs]
        have hidle := s.enterIdle_stilled begun (s.seq.ended .idle a.work.tag .done) hbusy rfl hwork
        have hconverts := exec_status_converts s dest body p hl hs hf ho hbody hv hb
        exact hconverts.trans (congrArg Host.Outcome.next
          ((congrArg s.enterIdle hfirst).trans (hidle.trans (begun.stilled_of_noBarrier _ hb))))
  · exact exec_stepDue_pays s a r n ha hk hw hr hcount hwatch _ _ _ (stepFrom_eq _ _) (owedAfter_eq _ _)
      (Follow.payCount_eq _)

end Sys2Proof.Machine

/-! ## Proofs: the entries and the exits of the homing phases (O48) -/

namespace Sys2Proof.Machine

/-! ### The inputs of a homing (R130 to R132) -/

/-- A HOME runs its phases (R127, R137). -/
structure State.Homes (s : State) (a : Active) : Prop where
  loaded : s.loader.load = .loaded
  station : s.station = .running
  active : s.seq.active = some a
  kind : a.work.kind = .home

theorem State.homingRuns_of_notHome (s : State) (h : s.activeKind ≠ some .home) : s.homingRuns = false := by
  simp [State.homingRuns, h]

theorem State.Homes.runs {s : State} {a : Active} (h : s.Homes a) : s.homingRuns = true := by
  simp [State.homingRuns, s.activeKind_some a h.active, h.kind, h.station]

theorem exec_indexEdge_loaded (s : State) (hload : s.loader.load = .loaded) :
    exec .indexEdge s = .next s.indexRises := congrArg Host.Outcome.next (if_pos (beq_iff_eq.2 hload))

theorem exec_homeInputChange_loaded (s : State) (x : Bool) (hload : s.loader.load = .loaded)
    (hx : s.drive.home ≠ x) : exec (.homeInputChange x) s = .next (s.homeChange x) :=
  congrArg Host.Outcome.next (if_pos ⟨beq_iff_eq.2 hload, hx⟩)

theorem exec_indexEdge_recorded (s : State) (hload : s.loader.load = .loaded)
    (hk : s.activeKind ≠ some .home) :
    exec .indexEdge s = .next (s.setDrive { s.drive with encZ := true }) := by
  have hidle := (s.setDrive { s.drive with encZ := true }).homingRuns_of_notHome hk
  exact (exec_indexEdge_loaded s hload).trans (congrArg Host.Outcome.next (if_neg (by simp [hidle])))

theorem exec_homeInputChange_recorded (s : State) (x : Bool) (hload : s.loader.load = .loaded)
    (hk : s.activeKind ≠ some .home) (hx : s.drive.home ≠ x) :
    exec (.homeInputChange x) s = .next (s.setDrive { s.drive with home := x }) := by
  have hidle := (s.setDrive { s.drive with home := x }).homingRuns_of_notHome hk
  exact (exec_homeInputChange_loaded s x hload hx).trans (congrArg Host.Outcome.next (if_neg (by simp [hidle])))

section

variable {s : State} {a : Active} (h : s.Homes a)

include h

theorem State.Homes.setDrive (drive : Drive) : (s.setDrive drive).Homes a :=
  ⟨h.loaded, h.station, h.active, h.kind⟩

theorem State.Homes.indexEdge : exec .indexEdge s =
    .next (s.enterIdle (s.setDrive { s.drive with encZ := true }).countIndex) :=
  (exec_indexEdge_loaded s h.loaded).trans
    (congrArg Host.Outcome.next (if_pos (h.setDrive { s.drive with encZ := true }).runs))

theorem State.Homes.homeRises (hx : s.drive.home = false) : exec (.homeInputChange true) s =
    .next (s.enterIdle (s.setDrive { s.drive with home := true }).homeActive) :=
  (exec_homeInputChange_loaded s true h.loaded (by simp [hx])).trans
    (congrArg Host.Outcome.next (if_pos (h.setDrive { s.drive with home := true }).runs))

theorem State.Homes.homeFalls (hx : s.drive.home = true) : exec (.homeInputChange false) s =
    .next (s.enterIdle (s.setDrive { s.drive with home := false }).homeInactive) :=
  (exec_homeInputChange_loaded s false h.loaded (by simp [hx])).trans
    (congrArg Host.Outcome.next (if_pos (h.setDrive { s.drive with home := false }).runs))

/-- What leaves the station RUNNING leaves dispatch out (R28). -/
theorem State.Homes.enterIdle_running (t : State) (ht : t.station = .running) : s.enterIdle t = t :=
  s.enterIdle_same t (ht.trans h.station.symm)

theorem State.Homes.fails : s.endedBy s.failHoming .homingFailed a :=
  s.recordFault_endedBy .homingFailed a h.active (.inl h.station) rfl rfl

end

/-- The entry test of REVERSE_SEEK and CLEAR fails the homing (R129, R135). -/
theorem State.Homes.enterAway_fails {s : State} {a : Active} (h : s.Homes a) (phase : HomingPhase)
    (hl : s.limitActive (opposite s.homing.dir) = true) :
    ∃ t, s.enterAway phase = t ∧ s.endedBy t .homingFailed a := by
  have hhomes : (s.setHoming { s.homing with
      phase := phase, leg := .moving, homeSeen := s.drive.home }).Homes a :=
    ⟨h.loaded, h.station, h.active, h.kind⟩
  exact ⟨_, if_pos hl, hhomes.fails⟩

/-! ### The entries (R129, R131, R132) -/

section

variable (s : State) (a : Active) (ha : s.seq.active = some a) (hk : a.work.kind = .home)
  (hw : s.cfg.followingWindow = 0) (ht : s.homing.travelUsed < s.homing.travelLimit)

include ha hk hw ht

/-- REVERSE_SEEK and CLEAR are entered with their first step away from side d (R129, R131). -/
theorem State.enterAway_eq (phase : HomingPhase) (hl : s.limitActive (opposite s.homing.dir) = false) :
    s.enterAway phase = (s.setHoming { s.homing with
      phase := phase, leg := .moving, homeSeen := s.drive.home
      travelUsed := s.homing.travelUsed + 1 }).setGen
        (s.gen.begun s.cfg (opposite s.homing.dir) a.work.profile (.seekBegun a.work.profile)) := by
  have hrun := State.seekRun_eq
    (s.setHoming { s.homing with phase := phase, leg := .moving, homeSeen := s.drive.home }) a ha hk hw
    (opposite s.homing.dir) ht
  exact (if_neg (Bool.eq_false_iff.1 hl)).trans hrun

/-- A flat run at the start rate that has emitted its first step (R132). -/
def Run.creepBegun (p : Profile) : Run := ⟨.flat, none, 1, p, p.fs, p.fs, 1, false, p.fs⟩

/-- The flat run of APPROACH and INDEX, with its first step (R71, R132). -/
theorem State.creepRun_eq : s.creepRun =
    (s.setHoming { s.homing with travelUsed := s.homing.travelUsed + 1 }).setGen
      (s.gen.stepped s.cfg s.homing.dir .flat a.work.profile.fs (.creepBegun a.work.profile)) := by
  have hprofile := s.activeProfile_some a ha
  generalize a.work.profile = p at hprofile ⊢
  generalize hg : s.gen.orderFlat s.cfg s.homing.dir p p.fs none = g
  have hgr : g.run = some (.flatAt p.fs none p) := by rw [← hg]; rfl
  have hactive : (s.setGen g).seq.active = some a := ha
  have hemit := State.emitStep_home (s.setGen g) a _ hactive hk hgr ht (State.errorBeyond_of_noWindow _ hw)
  have hphase : (g.emitted (.flatAt p.fs none p)).phase = .flat := by
    rw [← hg, Gen.emitted_phase_eq _ _ (by simp [Gen.orderFlat])]
    rfl
  have hnext : (g.emitted (.flatAt p.fs none p)).schedule =
      s.gen.stepped s.cfg s.homing.dir .flat p.fs (.creepBegun p) := by
    rw [Gen.schedule_flat _ (Run.flatAt p.fs none p).stepped hphase rfl, ← hg]
    cases hdir : s.homing.dir <;> rfl
  rw [State.creepRun, hprofile, hg, State.firstStep, hemit]
  exact congrArg (State.setGen (s.setHoming { s.homing with travelUsed := s.homing.travelUsed + 1 })) hnext

end

end Sys2Proof.Machine

/-! ## Proofs: homing completion, with the edges that may fall as the axis comes to rest (O48) -/

namespace Sys2Proof.Machine

/-- The positions written and HOMED set, before the record ends (R136). -/
def State.homedAt (s : State) (p : Position) : State := { s with
  gen := { s.gen.ceased with position := p }
  encoder := { s.encoder with position := p, remainder := 0 }
  seq := { s.seq with homed := true }
  homing := .reset }

theorem State.completeHoming_eq (s : State) : s.completeHoming =
    if (s.homedAt s.homing.offset).settlesAtEnd then (s.homedAt s.homing.offset).comeToRest.completeWork
    else (s.homedAt s.homing.offset).completeWork := rfl

/-- A homing that does not settle ends DONE (R35, R136). -/
theorem State.completeHoming_done (s : State) (a : Active) (ha : s.seq.active = some a)
    (hf : a.faultEnded = false) (hs : s.cfg.encoderMode = .off ∨ s.cfg.settleWindow = 0) :
    s.completeHoming = { s with
      gen := { s.gen.ceased with position := s.homing.offset }
      encoder := { s.encoder with position := s.homing.offset, remainder := 0, settle := none }
      seq := { s.seq.ended .idle a.work.tag .done with homed := true }
      homing := .reset, follow := .reset, barrier := none } := by
  have hsettles : (s.homedAt s.homing.offset).settlesAtEnd = false := by
    have hcfg : (s.homedAt s.homing.offset).cfg = s.cfg := rfl
    rcases hs with h | h <;> simp [State.settlesAtEnd, State.encoderOn, hcfg, h]
  have hactive : (s.homedAt s.homing.offset).seq.active = some a := ha
  rw [s.completeHoming_eq, if_neg (by simp [hsettles]),
    State.completeWork_done _ a hactive hf (.inr hsettles), State.endRecord_some _ _ a hactive]
  rfl

/-! ### The edges between the write and the settle check (R136, log 32) -/

/-- The station while the axis comes to rest: the record still runs, or a fault of the encoder has ended
it. -/
structure State.AtRest (s : State) (a : Active) (t : State) : Prop where
  position : t.gen.position = s.gen.position
  phase : t.gen.phase = .standstill
  run : t.gen.run = none
  homing : t.homing = .reset
  queue : t.queue = s.queue
  stack : t.stack = s.stack
  ends : (t.station = .running ∧ t.seq = s.seq) ∨
    (t.station = .faulted ∧ t.seq.active = none ∧ t.seq.lastFinished = some (a.work.tag, .faulted))

section

variable {s : State} {a : Active} {t : State} (ha : s.seq.active = some a) (hq : s.queue.entries = [])
  (h : s.AtRest a t)

include h in
theorem State.AtRest.keeps (u : State) (hgen : u.gen = t.gen) (hhoming : u.homing = t.homing)
    (hqueue : u.queue = t.queue) (hstack : u.stack = t.stack) (hseq : u.seq = t.seq) : s.AtRest a u := by
  obtain ⟨hposition, hphase, hrun, hreset, hkept, hheld, hends⟩ := h
  refine ⟨?_, ?_, ?_, ?_, ?_, ?_, ?_⟩
  · rwa [hgen]
  · rwa [hgen]
  · rwa [hgen]
  · rwa [hhoming]
  · rwa [hqueue]
  · rwa [hstack]
  · rwa [State.station, hseq]

include ha hq h

/-- A fault of the encoder ends the record where the axis stands (R49). -/
theorem State.AtRest.fault (k : FaultKind) (hi : k.immediate = true) : s.AtRest a (t.faultOfActive k) := by
  obtain ⟨hposition, hphase, hrun, hreset, hkept, hheld, ⟨hs, hseq⟩ | ⟨hs, hnone, hlast⟩⟩ := h
  · rw [State.faultOfActive, t.recordFault_endsRunning k _ a (by rw [hseq, ha]) hs (.inl hi)]
    have hentries : t.queue.unbound = t.queue := t.queue.unbound_of_nil (by rw [hkept, hq])
    exact ⟨hposition, rfl, rfl, rfl, hentries.trans hkept, hheld, .inr ⟨rfl, rfl, rfl⟩⟩
  · rw [State.faultOfActive, t.recordFault_standing k _ (.inr (.inr (.inr hs)))]
    exact ⟨hposition, hphase, hrun, hreset, hkept, hheld, .inr ⟨rfl, hnone, hlast⟩⟩

theorem State.AtRest.countEdge (d : Side) : s.AtRest a (t.countEdge d) := by
  have hcounted : s.AtRest a (t.setEncoder (t.encoder.edge t.cfg.divisor d)) := h.keeps _ rfl rfl rfl rfl rfl
  unfold State.countEdge
  dsimp only
  split
  · exact hcounted
  · have hchecked : s.AtRest a (t.checkFollowing (t.setEncoder (t.encoder.edge t.cfg.divisor d))) := by
      unfold State.checkFollowing
      split
      · exact hcounted.fault ha hq .followingError rfl
      · exact hcounted
    have hnotSettling : ¬ (t.checkFollowing (t.setEncoder (t.encoder.edge t.cfg.divisor d))).station = .settling := by
      rcases hchecked.ends with ⟨hs, -⟩ | ⟨hs, -, -⟩ <;> simp [hs]
    rw [State.settleTest, if_neg fun hc => hnotSettling hc.1]
    exact hchecked

theorem State.AtRest.countEdges (ds : List Side) : s.AtRest a (t.countEdges ds) := by
  induction ds generalizing t with
  | nil => exact h
  | cons d ds ih => exact ih (h.countEdge ha hq d)

theorem State.AtRest.pairBecomes (p : Bool × Bool) : s.AtRest a (t.pairBecomes p) := by
  unfold State.pairBecomes
  split
  · exact h
  · have htaken : s.AtRest a (t.takePair p.1 p.2) := h.keeps _ rfl rfl rfl rfl rfl
    have hcounted := htaken.countEdges ha hq (t.edgesOf t.lastPair (p.1, p.2))
    unfold State.pairChange
    dsimp only
    split
    · exact hcounted.fault ha hq .encoderError rfl
    · exact hcounted

theorem State.AtRest.comeToRest : s.AtRest a t.comeToRest := by
  have hstart : s.AtRest a (t.setRestCount (t.restCount + 1)) := h.keeps _ rfl rfl rfl rfl rfl
  unfold State.comeToRest
  generalize Config.pairsAtRest t.restCount = ps
  generalize t.setRestCount (t.restCount + 1) = u at hstart ⊢
  induction ps generalizing u with
  | nil => exact hstart
  | cons p ps ih => exact ih (u.pairBecomes p) (hstart.pairBecomes ha hq p)

end

/-! ### The settle check (R35, R37, R136) -/

/-- A record that settles ends DONE at once, or goes on in SETTLING (R35, R159). -/
theorem State.enterSettling_cases (s : State) (a : Active) (ha : s.seq.active = some a) :
    (s.enterSettling = { s with
      gen := s.gen.ceased, encoder := { s.encoder with settle := some 0 }
      seq := { s.seq with
        station := .settling, active := some { a with disposition := none, reserved := false } } }) ∨
    (s.enterSettling = s.stilled (s.seq.ended .idle a.work.tag .done)) := by
  generalize hu : ({ s with
    gen := s.gen.ceased, encoder := { s.encoder with settle := some 0 }
    seq := { s.seq with
      station := .settling, active := some { a with disposition := none, reserved := false } } } : State) = u
  have henters : s.enterSettling = u.settleTest := by
    simp only [State.enterSettling, State.setEncoder_seq, State.setGen_seq, ha]
    rw [← hu]
    rfl
  have hactive : u.seq.active = some { a with disposition := none, reserved := false } := by rw [← hu]
  rw [henters, State.settleTest]
  split
  · right
    rw [u.endRecord_some .done _ hactive, ← hu]
    rfl
  · exact .inl rfl

theorem State.comeToRest_cfg (s : State) : s.comeToRest.cfg = s.cfg :=
  congrArg Loader.settings (outside_parts s.comeToRest_outside).1

/-- A homing that settles, at its completion: DONE, SETTLING, or FAULTED by an edge as the axis came to
rest (R35, R136, R158). -/
theorem State.completeHoming_settles (before s : State) (a : Active) (ha : s.seq.active = some a)
    (hk : a.work.kind = .home)
    (hs : s.station = .running) (hb : before.station ≠ .idle) (hf : a.faultEnded = false)
    (hon : s.cfg.encoderMode ≠ .off) (hwindow : s.cfg.settleWindow ≠ 0) (hw : s.noWork) (t : State)
    (ht : before.enterIdle s.completeHoming = t) : t.gen.position = s.homing.offset ∧
      t.gen.phase = .standstill ∧ t.gen.run = none ∧ t.homing = .reset ∧ t.queue = s.queue ∧
      t.stack = s.stack ∧ (t.station = .idle ∨ t.station = .settling ∨ t.station = .faulted) ∧
      (t.station = .idle → t.seq = { s.seq.ended .idle a.work.tag .done with homed := true }) ∧
      (t.station = .settling → t.seq.homed = true ∧ t.encoder.settle = some 0 ∧
        t.seq.active = some { a with disposition := none, reserved := false }) ∧
      (t.station = .faulted → t.seq.lastFinished = some (a.work.tag, .faulted)) := by
  generalize hu : s.homedAt s.homing.offset = u
  have hactive : u.seq.active = some a := by rw [← hu]; exact ha
  have hstart : u.AtRest a u := ⟨rfl, by rw [← hu]; rfl, by rw [← hu]; rfl, by rw [← hu]; rfl, rfl, rfl,
    .inl ⟨by rw [← hu]; exact hs, rfl⟩⟩
  have hrest : u.AtRest a u.comeToRest := hstart.comeToRest hactive (by rw [← hu]; exact hw.1)
  have hsettles : ∀ x : State, x.cfg = s.cfg → x.settlesAtEnd = true := fun x hx => by
    simp [State.settlesAtEnd, State.encoderOn, hx, hon, hwindow]
  have hcompletes : s.completeHoming = u.comeToRest.completeWork := by
    rw [s.completeHoming_eq, hu, if_pos (hsettles u (by rw [← hu]; rfl))]
  obtain ⟨hposition, hphase, hrun, hhoming, hqueue, hstack, hends⟩ := hrest
  have hcfg : u.comeToRest.cfg = s.cfg := u.comeToRest_cfg.trans (by rw [← hu]; rfl)
  have hat : u.comeToRest.gen.position = s.homing.offset := hposition.trans (by rw [← hu]; rfl)
  have hkeepsQueue : u.comeToRest.queue = s.queue := hqueue.trans (by rw [← hu]; rfl)
  have hkeepsStack : u.comeToRest.stack = s.stack := hstack.trans (by rw [← hu]; rfl)
  have hwork : u.comeToRest.noWork := ⟨by rw [hkeepsQueue]; exact hw.1, by rw [hkeepsStack]; exact hw.2⟩
  rw [hcompletes] at ht
  obtain ⟨hrunning, hseq⟩ | ⟨hfaulted, hnone, hlast⟩ := hends
  · have hhomed : u.comeToRest.seq = { s.seq with homed := true } := hseq.trans (by rw [← hu]; rfl)
    have hrests : u.comeToRest.seq.active = some a := by rw [hseq, hactive]
    rw [State.completeWork_settles _ a hrests hf (by rw [hk]; rfl) (hsettles _ hcfg)] at ht
    obtain hsettling | hdone := u.comeToRest.enterSettling_cases a hrests
    · rw [hsettling, before.enterIdle_other _ (by exact Station.noConfusion)] at ht
      subst ht
      exact ⟨hat, rfl, rfl, hhoming, hkeepsQueue, hkeepsStack, .inr (.inl rfl), Station.noConfusion,
        fun _ => ⟨congrArg Sequencer.homed hhomed, rfl, rfl⟩, Station.noConfusion⟩
    · rw [hdone, before.enterIdle_stilled _ _ hb rfl hwork] at ht
      subst ht
      refine ⟨hat, rfl, rfl, rfl, hkeepsQueue, hkeepsStack, .inl rfl, fun _ => ?_, Station.noConfusion,
        Station.noConfusion⟩
      rw [hhomed]
      rfl
  · have hkept : u.comeToRest.completeWork = u.comeToRest := by
      unfold State.completeWork
      simp only [hnone]
    rw [hkept, before.enterIdle_other _ (by simp [hfaulted])] at ht
    subst ht
    exact ⟨hat, hphase, hrun, hhoming, hkeepsQueue, hkeepsStack, .inr (.inr hfaulted),
      fun h => Station.noConfusion (hfaulted.symm.trans h), fun h => Station.noConfusion (hfaulted.symm.trans h),
      fun _ => hlast⟩

end Sys2Proof.Machine

/-! ## Proofs: the exits of SEEK, APPROACH and INDEX (O48) -/

namespace Sys2Proof.Machine

/-- A homing that ends DONE with no work waiting leaves the station in IDLE (R28, R136). -/
theorem State.enterIdle_homed (before s : State) (a : Active) (ha : s.seq.active = some a)
    (hb : before.station ≠ .idle) (hf : a.faultEnded = false)
    (hs : s.cfg.encoderMode = .off ∨ s.cfg.settleWindow = 0) (hw : s.noWork) :
    before.enterIdle s.completeHoming = { s with
      gen := { s.gen.ceased with position := s.homing.offset }
      encoder := { s.encoder with position := s.homing.offset, remainder := 0, settle := none }
      seq := { s.seq.ended .idle a.work.tag .done with homed := true }
      homing := .reset, follow := .reset, barrier := none } := by
  rw [s.completeHoming_done a ha hf hs, before.enterIdle_entered _ rfl hb]
  exact State.dispatch_noWork_idle _ hw rfl

theorem State.phaseBrake_brakes (s : State) (r : Run) (hr : s.gen.run = some r)
    (hp : s.gen.phase = .accelerating ∨ s.gen.phase = .cruising) (hfast : r.profile.fs < s.gen.rate) :
    s.phaseBrake = s.setGen s.gen.brake := by
  have hrate : s.gen.stopRate r = s.gen.rate := if_neg (by rcases hp with h | h <;> simp [h])
  have hgoes := s.gen.stopsAtOnce_of_fast r hr (by rcases hp with h | h <;> simp [h])
    (by rcases hp with h | h <;> simp [h]) (by rw [hrate]; exact hfast)
  exact if_neg (by simp [hgoes])

theorem State.homeActive_approach (u : State) (hp : u.homing.phase = .approach) : u.homeActive =
    if u.homing.indexRemaining = 0 then u.completeHoming else u.enterIndexMoving := by
  unfold State.homeActive
  rw [hp]

/-- The phase that the limit on side d leads to in SEEK (R130). -/
def State.afterSeek (s : State) : HomingPhase := if s.homing.leg = .moving then .reverseSeek else .clear

/-- The axis stands at a limit that has become ACTIVE (R130). -/
def State.limitedAt (s : State) (side : Side) : State := { s with
  drive := (s.setLimit side true).drive, gen := s.gen.ceased }

theorem State.limitedAt_opposite (s : State) (side : Side) :
    (s.limitedAt side).limitActive (opposite side) = s.limitActive (opposite side) := by
  cases side <;> rfl

section

variable {s : State} {a : Active} (h : s.Homes a)

include h

theorem State.Homes.busy : s.station ≠ .idle := by simp [h.station]

/-! ### INDEX and APPROACH (R132, R136) -/

theorem State.Homes.indexEdge_counts (hp : s.homing.phase = .index) (hn : 2 ≤ s.homing.indexRemaining) :
    exec .indexEdge s = .next { s with
      drive := { s.drive with encZ := true }
      homing := { s.homing with indexRemaining := s.homing.indexRemaining - 1 } } := by
  have hmore : ¬ s.homing.indexRemaining ≤ 1 := by omega
  have hcounts : (s.setDrive { s.drive with encZ := true }).countIndex = { s with
      drive := { s.drive with encZ := true }
      homing := { s.homing with indexRemaining := s.homing.indexRemaining - 1 } } :=
    (if_pos hp).trans (if_neg hmore)
  rw [h.indexEdge, hcounts, s.enterIdle_same]
  rfl

theorem State.Homes.indexEdge_completes (hp : s.homing.phase = .index) (hn : s.homing.indexRemaining = 1) :
    exec .indexEdge s = .next (s.enterIdle ((s.setDrive { s.drive with encZ := true }).setHoming
      { s.homing with indexRemaining := s.homing.indexRemaining - 1 }).completeHoming) := by
  have hlast : s.homing.indexRemaining ≤ 1 := by omega
  have hcounts : (s.setDrive { s.drive with encZ := true }).countIndex =
      ((s.setDrive { s.drive with encZ := true }).setHoming
        { s.homing with indexRemaining := s.homing.indexRemaining - 1 }).completeHoming :=
    (if_pos hp).trans (if_pos hlast)
  rw [h.indexEdge, hcounts]

theorem State.Homes.approach_completes (hp : s.homing.phase = .approach) (hn : s.homing.indexRemaining = 0)
    (hx : s.drive.home = false) : exec (.homeInputChange true) s =
      .next (s.enterIdle (s.setDrive { s.drive with home := true }).completeHoming) := by
  rw [h.homeRises hx, State.homeActive_approach (s.setDrive { s.drive with home := true }) hp]
  exact congrArg (fun t => Host.Outcome.next (s.enterIdle t)) (if_pos hn)

theorem State.Homes.approach_entersIndex (hp : s.homing.phase = .approach) (hn : s.homing.indexRemaining ≠ 0)
    (hx : s.drive.home = false) (hl : s.limitActive s.homing.dir = false) :
    exec (.homeInputChange true) s = .next { s with
      drive := { s.drive with home := true }
      homing := { s.homing with phase := .index, leg := .moving } } := by
  have hlimit : (s.setDrive { s.drive with home := true }).limitActive s.homing.dir = false := by
    cases hd : s.homing.dir <;> simpa [State.limitActive, hd] using hl
  have hactive : (s.setDrive { s.drive with home := true }).homeActive =
      (s.setDrive { s.drive with home := true }).setPhase .index :=
    (State.homeActive_approach (s.setDrive { s.drive with home := true }) hp).trans
      ((if_neg hn).trans (if_neg (Bool.eq_false_iff.1 hlimit)))
  rw [h.homeRises hx, hactive, s.enterIdle_same]
  · rfl
  · rfl

/-! ### SEEK (R130, R133) -/

theorem State.Homes.seek_brakes (hp : s.homing.phase = .seek) (hleg : s.homing.leg = .moving)
    (hx : s.drive.home = false) (r : Run) (hr : s.gen.run = some r)
    (hmoves : s.gen.phase = .accelerating ∨ s.gen.phase = .cruising) (hfast : r.profile.fs < s.gen.rate) :
    exec (.homeInputChange true) s = .next { s with
      drive := { s.drive with home := true }
      homing := { s.homing with leg := .ending }
      gen := s.gen.brake } := by
  have hactive : (s.setDrive { s.drive with home := true }).homeActive =
      (s.setDrive { s.drive with home := true }).ending.phaseBrake := by
    unfold State.homeActive
    rw [State.setDrive_homing, hp, hleg]
  have hbrakes := State.phaseBrake_brakes (s.setDrive { s.drive with home := true }).ending r hr hmoves hfast
  rw [h.homeRises hx, hactive, hbrakes, s.enterIdle_same]
  · rfl
  · rfl

theorem State.Homes.setLimit (side : Side) (x : Bool) : (s.setLimit side x).Homes a := by
  cases side <;> exact ⟨h.loaded, h.station, h.active, h.kind⟩

theorem State.Homes.seek_limit (hp : s.homing.phase = .seek) (hl : s.limitActive s.homing.dir = false) :
    exec (.limitInputChange s.homing.dir true) s =
      .next (s.enterIdle ((s.limitedAt s.homing.dir).enterAway s.afterSeek)) := by
  generalize hu : s.setLimit s.homing.dir true = u
  have hhomes : u.Homes a := hu ▸ h.setLimit s.homing.dir true
  have hhoming : u.homing = s.homing := by rw [← hu, s.setLimit_eq]
  have hkind : u.activeKind = some .home := by rw [u.activeKind_some a hhomes.active, hhomes.kind]
  have hreached : u.limitReached s.homing.dir = u.homingLimit s.homing.dir :=
    (if_pos hkind).trans (if_pos hhomes.station)
  have hceased : u.setGen u.gen.ceased = s.limitedAt s.homing.dir := by
    rw [← hu, s.setLimit_eq]
    rfl
  have hexits : u.homingLimit s.homing.dir = (u.setGen u.gen.ceased).enterAway s.afterSeek := by
    rw [State.homingLimit, hhoming, hp, State.afterSeek]
    cases s.homing.leg <;> exact if_pos rfl
  rw [exec_limitInputChange s s.homing.dir true h.loaded (by simp [hl]), s.limitChange_active, hu, hreached, hexits,
    hceased]

theorem State.Homes.limitedAt (side : Side) : (s.limitedAt side).Homes a :=
  ⟨h.loaded, h.station, h.active, h.kind⟩

/-- The limit on side d in SEEK leads away from it, with the first step of the next phase (R129, R130). -/
theorem State.Homes.seek_leaves (hp : s.homing.phase = .seek) (hl : s.limitActive s.homing.dir = false)
    (haway : s.limitActive (opposite s.homing.dir) = false) (hw : s.cfg.followingWindow = 0)
    (ht : s.homing.travelUsed < s.homing.travelLimit) :
    exec (.limitInputChange s.homing.dir true) s = .next { s with
      drive := (s.setLimit s.homing.dir true).drive
      homing := { s.homing with
        phase := s.afterSeek, leg := .moving, homeSeen := s.drive.home
        travelUsed := s.homing.travelUsed + 1 }
      gen := s.gen.begun s.cfg (opposite s.homing.dir) a.work.profile (.seekBegun a.work.profile) } := by
  have hentry := (s.limitedAt s.homing.dir).enterAway_eq a h.active h.kind hw ht s.afterSeek
    ((s.limitedAt_opposite s.homing.dir).trans haway)
  have hseen : (s.limitedAt s.homing.dir).drive.home = s.drive.home := by cases s.homing.dir <;> rfl
  rw [hseen] at hentry
  rw [h.seek_limit hp hl, hentry]
  exact congrArg Host.Outcome.next (h.enterIdle_running _ h.station)

/-- With the other limit active too the homing fails (R129, R135). -/
theorem State.Homes.seek_fails (hp : s.homing.phase = .seek) (hl : s.limitActive s.homing.dir = false)
    (haway : s.limitActive (opposite s.homing.dir) = true) :
    ∃ t, exec (.limitInputChange s.homing.dir true) s = .next t ∧
      t.seq = s.seq.ended .faulted a.work.tag .faulted ∧ t.gen = s.gen.ceased ∧
      t.faults = s.faults.record ⟨.homingFailed, s.link.cycle, some a.work.tag, s.gen.position⟩ := by
  obtain ⟨t, hentry, hended⟩ := (h.limitedAt s.homing.dir).enterAway_fails s.afterSeek
    ((s.limitedAt_opposite s.homing.dir).trans haway)
  have hexits := h.seek_limit hp hl
  rw [hentry, hended.enterIdle] at hexits
  obtain ⟨hseq, hgen, -, -, -, -, -, hfaults, -, -⟩ := hended
  exact ⟨t, hexits, hseq, hgen, hfaults⟩

end

end Sys2Proof.Machine

/-! ## Proofs: the exits of REVERSE_SEEK and CLEAR, and homing as a whole (O48) -/

namespace Sys2Proof.Machine

/-- A step one way and the first step of a run the other way (R57). -/
theorem Gen.stepped_back (g before : Gen) (c : Settings) (d : Side) (phase : GenPhase) (rate : Nat) (r : Run)
    (h : g.position = stepFrom before.position (opposite d)) : g.stepped c d phase rate r =
      { before.stepped c d phase rate r with position := before.position } := by
  cases d with
  | pos =>
    have hback : g.position + 1 = before.position := by rw [h]; exact BitVec.sub_add_cancel _ _
    exact congrArg (fun p => { before.stepped c .pos phase rate r with position := p }) hback
  | neg =>
    have hback : g.position - 1 = before.position := by rw [h]; exact BitVec.add_sub_cancel _ _
    exact congrArg (fun p => { before.stepped c .neg phase rate r with position := p }) hback

theorem opposite_opposite (d : Side) : opposite (opposite d) = d := by cases d <;> rfl

/-- The station after a step of a homing, with the generator ceased (R65, R66, R134). -/
def State.stoodAt (s : State) : State := { s with
  gen := { s.gen.ceased with position := stepFrom s.gen.position s.gen.dir }
  homing := { s.homing with travelUsed := s.homing.travelUsed + 1 } }

section

variable {s : State} {a : Active} (h : s.Homes a)

include h

theorem State.Homes.stoodAt : s.stoodAt.Homes a := ⟨h.loaded, h.station, h.active, h.kind⟩

/-! ### The step that ends the motion of a phase (R65, R66, R129) -/

section

variable (r : Run) (hr : s.gen.run = some r) (hw : s.cfg.followingWindow = 0)
  (ht : s.homing.travelUsed < s.homing.travelLimit)

include hr hw ht

theorem State.Homes.stepDue : exec .stepDue s =
    .next (s.enterIdle (s.setGen (s.gen.emitted r)).homingStep.afterStep) := by
  rw [exec_stepDue_run s r hr (.inl h.station), State.stepRun,
    s.emitStep_home a r h.active h.kind hr ht (State.errorBeyond_of_noWindow _ hw)]

/-- The step with which the braking of a phase comes to standstill (R66, R129). -/
theorem State.Homes.brakeEnds (hcount : r.count = none) (hp : s.gen.phase = .braking)
    (hslow : r.nextRate ≤ r.profile.fs) :
    exec .stepDue s = .next (s.enterIdle (s.setGen (s.gen.emitted r)).homingStep.phaseEnd) := by
  generalize hv : (s.setGen (s.gen.emitted r)).homingStep = v
  have hhomes : v.Homes a := by
    rw [← hv]
    exact ⟨h.loaded, h.station, h.active, h.kind⟩
  have hphase : v.gen.phase = .braking := by
    rw [← hv]
    exact (s.gen.emitted_phase_eq r (by simp [hp])).trans hp
  have hrate : v.gen.rate ≤ r.stepped.profile.fs := by
    rw [← hv]
    exact hslow
  have hstands := v.afterStep_standstill r.stepped (by rw [← hv]; rfl) (r.stepped.ended_uncounted hcount) hphase hrate
  have hends : v.standstill = v.phaseEnd := if_pos hhomes.runs
  rw [h.stepDue r hr hw ht, hv, hstands, hends]

/-- The last step of the clearance (R65, R131). -/
theorem State.Homes.clearanceEnds (n : Nat) (hcount : r.count = some n) (hn : r.emitted + 1 = n) :
    exec .stepDue s = .next (s.enterIdle (s.setGen (s.gen.emitted r)).homingStep.phaseEnd) := by
  generalize hv : (s.setGen (s.gen.emitted r)).homingStep = v
  have hhomes : v.Homes a := by
    rw [← hv]
    exact ⟨h.loaded, h.station, h.active, h.kind⟩
  have hended : r.stepped.ended = true := by
    rw [r.stepped_ended n hcount]
    exact decide_eq_true (by omega)
  have hlast := v.afterStep_ended r.stepped (by rw [← hv]; rfl) hended
  have hends : v.lastStep r.stepped = v.phaseEnd := by
    unfold State.lastStep
    simp only [hhomes.active, h.kind]
    exact if_pos hhomes.station
  rw [h.stepDue r hr hw ht, hv, hlast, hends]

end

/-- The motion of SEEK ends in CLEAR (R129, R130). -/
theorem State.Homes.seek_clears (r : Run) (hr : s.gen.run = some r) (hw : s.cfg.followingWindow = 0)
    (ht : s.homing.travelUsed + 1 < s.homing.travelLimit) (hphase : s.homing.phase = .seek)
    (hcount : r.count = none) (hp : s.gen.phase = .braking) (hslow : r.nextRate ≤ r.profile.fs)
    (hdir : s.gen.dir = s.homing.dir) (hl : s.limitActive (opposite s.homing.dir) = false) :
    exec .stepDue s = .next { s with
      homing := { s.homing with
        phase := .clear, leg := .moving, homeSeen := s.drive.home, travelUsed := s.homing.travelUsed + 2 }
      gen := { s.gen.begun s.cfg (opposite s.homing.dir) a.work.profile (.seekBegun a.work.profile) with
        position := s.gen.position } } := by
  have hends : (s.setGen (s.gen.emitted r)).homingStep.phaseEnd = s.stoodAt.enterAway .clear := by
    unfold State.phaseEnd
    have hsame : (s.setGen (s.gen.emitted r)).homingStep.homing.phase = .seek := hphase
    simp only [hsame]
    rfl
  have hentry := s.stoodAt.enterAway_eq a h.active h.kind hw ht .clear hl
  have hback := s.stoodAt.gen.stepped_back s.gen s.cfg (opposite s.homing.dir)
    (if a.work.profile.fs = a.work.profile.ft then .cruising else .accelerating) a.work.profile.fs
    (.seekBegun a.work.profile) (by rw [opposite_opposite, ← hdir]; rfl)
  rw [h.brakeEnds r hr hw (by omega) hcount hp hslow, hends, hentry, h.enterIdle_running _ (by exact h.station)]
  exact congrArg (fun g => Host.Outcome.next { s with
    homing := { s.homing with
      phase := .clear, leg := .moving, homeSeen := s.drive.home, travelUsed := s.homing.travelUsed + 2 }
    gen := g }) hback

/-! ### REVERSE_SEEK and CLEAR (R131) -/

/-- REVERSE_SEEK or CLEAR: the phases that run opposite to d. -/
abbrev Homing.away (m : Homing) : Prop := m.phase = .reverseSeek ∨ m.phase = .clear

omit h in
theorem State.homeActive_away (u : State) (hp : u.homing.away) : u.homeActive =
    if u.homing.leg = .moving then u.setHoming { u.homing with homeSeen := true } else u := by
  unfold State.homeActive
  rcases hp with hp | hp <;> rw [hp] <;> cases u.homing.leg <;> rfl

omit h in
theorem State.homeInactive_away (u : State) (hp : u.homing.away) : u.homeInactive =
    if u.homing.leg = .moving ∧ u.homing.homeSeen = true then u.clearance else u := by
  unfold State.homeInactive
  rcases hp with hp | hp <;> rw [hp] <;> cases u.homing.leg <;> cases u.homing.homeSeen <;> rfl

section

variable (hp : s.homing.away)

include hp

theorem State.Homes.away_sees (hleg : s.homing.leg = .moving) (hx : s.drive.home = false) :
    exec (.homeInputChange true) s = .next { s with
      drive := { s.drive with home := true }
      homing := { s.homing with homeSeen := true } } := by
  have hactive := (State.homeActive_away (s.setDrive { s.drive with home := true }) hp).trans (if_pos hleg)
  rw [h.homeRises hx, hactive]
  exact congrArg Host.Outcome.next (h.enterIdle_running _ h.station)

theorem State.Homes.away_ignores (x : Bool) (hx : s.drive.home ≠ x)
    (hi : s.homing.leg = .ending ∨ (x = false ∧ s.homing.homeSeen = false)) :
    exec (.homeInputChange x) s = .next { s with drive := { s.drive with home := x } } := by
  cases x with
  | true =>
    have hending : ¬ s.homing.leg = .moving := by simp [hi.resolve_right (by simp)]
    have hactive := (State.homeActive_away (s.setDrive { s.drive with home := true }) hp).trans (if_neg hending)
    rw [h.homeRises (by simpa using hx), hactive]
    exact congrArg Host.Outcome.next (h.enterIdle_running _ h.station)
  | false =>
    have hwaits : ¬ (s.homing.leg = .moving ∧ s.homing.homeSeen = true) := by
      rintro ⟨hleg, hseen⟩
      simp [hleg, hseen] at hi
    have hinactive := (State.homeInactive_away (s.setDrive { s.drive with home := false }) hp).trans (if_neg hwaits)
    rw [h.homeFalls (by simpa using hx), hinactive]
    exact congrArg Host.Outcome.next (h.enterIdle_running _ h.station)

/-- HOME seen and then INACTIVE begins the clearance (R131). -/
theorem State.Homes.away_clears (hleg : s.homing.leg = .moving) (hx : s.drive.home = true)
    (hseen : s.homing.homeSeen = true) : exec (.homeInputChange false) s =
      .next (s.enterIdle (s.setDrive { s.drive with home := false }).clearance) := by
  have hinactive := (State.homeInactive_away (s.setDrive { s.drive with home := false }) hp).trans
    (if_pos ⟨hleg, hseen⟩)
  rw [h.homeFalls hx, hinactive]

theorem State.Homes.away_counts (hleg : s.homing.leg = .moving) (hx : s.drive.home = true)
    (hseen : s.homing.homeSeen = true) (r : Run) (hr : s.gen.run = some r) (hc : s.cfg.clearance ≠ 0) :
    exec (.homeInputChange false) s = .next { s with
      drive := { s.drive with home := false }
      homing := { s.homing with leg := .ending }
      gen := { s.gen with run := some { r with
        kind := .counted, count := some (r.emitted + s.cfg.clearance), endRate := r.profile.fs } } } := by
  have hset : s.gen.setCount s.cfg.clearance = { s.gen with run := some { r with
      kind := .counted, count := some (r.emitted + s.cfg.clearance), endRate := r.profile.fs } } := by
    rw [Gen.setCount, hr]
    rfl
  have hclears : (s.setDrive { s.drive with home := false }).clearance =
      (s.setDrive { s.drive with home := false }).ending.setGen (s.gen.setCount s.cfg.clearance) := if_neg hc
  rw [h.away_clears hp hleg hx hseen, hclears, hset]
  exact congrArg Host.Outcome.next (h.enterIdle_running _ h.station)

theorem State.Homes.away_brakes (hleg : s.homing.leg = .moving) (hx : s.drive.home = true)
    (hseen : s.homing.homeSeen = true) (r : Run) (hr : s.gen.run = some r) (hc : s.cfg.clearance = 0)
    (hmoves : s.gen.phase = .accelerating ∨ s.gen.phase = .cruising) (hfast : r.profile.fs < s.gen.rate) :
    exec (.homeInputChange false) s = .next { s with
      drive := { s.drive with home := false }
      homing := { s.homing with leg := .ending }
      gen := s.gen.brake } := by
  have hclears : (s.setDrive { s.drive with home := false }).clearance =
      (s.setDrive { s.drive with home := false }).ending.phaseBrake := if_pos hc
  have hbrakes := State.phaseBrake_brakes (s.setDrive { s.drive with home := false }).ending r hr hmoves hfast
  rw [h.away_clears hp hleg hx hseen, hclears, hbrakes]
  exact congrArg Host.Outcome.next (h.enterIdle_running _ h.station)

/-! ### The entry of APPROACH (R129, R132) -/

section

variable (r : Run) (n : Nat) (hr : s.gen.run = some r) (hw : s.cfg.followingWindow = 0)
  (ht : s.homing.travelUsed + 1 < s.homing.travelLimit) (hcount : r.count = some n) (hn : r.emitted + 1 = n)

include hr hw ht hcount hn

theorem State.Homes.away_approaches : exec .stepDue s = .next (s.enterIdle s.stoodAt.enterApproach) := by
  have hends : (s.setGen (s.gen.emitted r)).homingStep.phaseEnd = s.stoodAt.enterApproach := by
    unfold State.phaseEnd
    have hsame : (s.setGen (s.gen.emitted r)).homingStep.homing.phase = s.homing.phase := rfl
    rcases hp with hp | hp <;> rw [hp] at hsame <;> simp only [hsame] <;> rfl
  rw [h.clearanceEnds r hr hw (by omega) n hcount hn, hends]

/-- With the limit on side d active the homing fails (R129, R135). -/
theorem State.Homes.approach_fails (hl : s.limitActive s.homing.dir = true) : ∃ t, exec .stepDue s = .next t ∧
    t.seq = s.seq.ended .faulted a.work.tag .faulted ∧
    t.gen.position = stepFrom s.gen.position s.gen.dir ∧ t.gen.run = none ∧
    t.faults = s.faults.record ⟨.homingFailed, s.link.cycle, some a.work.tag,
      stepFrom s.gen.position s.gen.dir⟩ := by
  have hhomes : (s.stoodAt.setPhase .approach).Homes a := ⟨h.loaded, h.station, h.active, h.kind⟩
  have hentry : s.stoodAt.enterApproach = (s.stoodAt.setPhase .approach).failHoming := if_pos hl
  have hended := hhomes.fails
  have hexec := h.away_approaches hp r n hr hw ht hcount hn
  rw [hentry, hended.enterIdle] at hexec
  obtain ⟨hseq, hgen, -, -, -, -, -, hfaults, -, -⟩ := hended
  exact ⟨_, hexec, hseq, congrArg Gen.position hgen, congrArg Gen.run hgen, hfaults⟩

/-- APPROACH, or INDEX with HOME active, begins with its flat run (R132). -/
theorem State.Homes.approach_creeps (hdir : s.gen.dir = opposite s.homing.dir)
    (hl : s.limitActive s.homing.dir = false)
    (hx : s.drive.home = false ∨ s.homing.indexRemaining ≠ 0) : exec .stepDue s = .next { s with
      homing := { s.homing with
        phase := if s.drive.home = true then .index else .approach
        leg := .moving, travelUsed := s.homing.travelUsed + 2 }
      gen := { s.gen.stepped s.cfg s.homing.dir .flat a.work.profile.fs (.creepBegun a.work.profile) with
        position := s.gen.position } } := by
  have hentry : s.stoodAt.enterApproach =
      (s.stoodAt.setPhase (if s.drive.home = true then .index else .approach)).creepRun := by
    have hopen : ¬ s.limitActive s.homing.dir = true := Bool.eq_false_iff.1 hl
    cases hhome : s.drive.home with
    | false => exact (if_neg hopen).trans (if_neg (by simp [State.stoodAt, hhome]))
    | true =>
      have hindex : s.homing.indexRemaining ≠ 0 := hx.resolve_left (by simp [hhome])
      have hstands : (s.stoodAt.setPhase .approach).enterIndexStanding = (s.stoodAt.setPhase .index).creepRun :=
        if_neg hopen
      exact (if_neg hopen).trans ((if_pos hhome).trans ((if_neg hindex).trans hstands))
  generalize (if s.drive.home = true then HomingPhase.index else .approach) = phase at hentry ⊢
  have hcreeps := (s.stoodAt.setPhase phase).creepRun_eq a h.active h.kind hw ht
  have hback := s.stoodAt.gen.stepped_back s.gen s.cfg s.homing.dir .flat a.work.profile.fs
    (.creepBegun a.work.profile) (by rw [← hdir]; rfl)
  rw [h.away_approaches hp r n hr hw ht hcount hn, hentry, hcreeps, h.enterIdle_running _ (by exact h.station)]
  exact congrArg (fun g => Host.Outcome.next { s with
    homing := { s.homing with phase := phase, leg := .moving, travelUsed := s.homing.travelUsed + 2 }
    gen := g }) hback

/-- HOME active and no index edge to count: the homing ends at the entry (R132, R136). -/
theorem State.Homes.approach_ends (hl : s.limitActive s.homing.dir = false) (hx : s.drive.home = true)
    (hi : s.homing.indexRemaining = 0) (hf : a.faultEnded = false)
    (hs : s.cfg.encoderMode = .off ∨ s.cfg.settleWindow = 0) (hwork : s.noWork) :
    ∃ t, exec .stepDue s = .next t ∧ t.gen.position = s.homing.offset ∧ t.gen.run = none ∧
      t.encoder.position = s.homing.offset ∧
      t.seq = { s.seq.ended .idle a.work.tag .done with homed := true } := by
  have hentry : s.stoodAt.enterApproach = (s.stoodAt.setPhase .approach).completeHoming :=
    (if_neg (Bool.eq_false_iff.1 hl)).trans ((if_pos hx).trans (if_pos hi))
  have hends := s.enterIdle_homed (s.stoodAt.setPhase .approach) a h.active h.busy hf hs hwork
  refine ⟨_, (h.away_approaches hp r n hr hw ht hcount hn).trans
    (congrArg Host.Outcome.next ((congrArg s.enterIdle hentry).trans hends)), rfl, rfl, rfl, rfl⟩

end

end

end

end Sys2Proof.Machine

/-! ## Proofs: O48 -/

namespace Sys2Proof.Machine

theorem State.setLimit_drive (s : State) (side : Side) : (s.setLimit side true).drive = match side with
    | .pos => { s.drive with limPos := true }
    | .neg => { s.drive with limNeg := true } := by
  cases side <;> rfl

/-- Settles O48: phase by phase, each exit with the entry it leads to. -/
theorem homingExitsAndCompletion : Obligations.HomingExitsAndCompletion := by
  refine ⟨fun s hload => ⟨exec_indexEdge_recorded s hload, fun x => exec_homeInputChange_recorded s x hload⟩,
    fun s a hload hs ha hk => ?_⟩
  have h : s.Homes a := ⟨hload, hs, ha, hk⟩
  intro p d away begun
  refine ⟨h.indexEdge_counts, fun hf hmode hwork => ?_, fun hf hon hwindow hwork hphase hi hx => ?_,
    h.approach_entersIndex, fun r hphase hleg hx hr => h.seek_brakes hphase hleg hx r hr, fun hphase hl => ?_,
    fun r hphase hleg hp hr hcount hslow hdir hl hw ht => ?_, fun hphase => ?_⟩
  · intro done
    refine ⟨fun hphase hi => ?_, fun hphase hi hx => ?_⟩
    · have hends := s.enterIdle_homed ((s.setDrive { s.drive with encZ := true }).setHoming
        { s.homing with indexRemaining := s.homing.indexRemaining - 1 }) a ha h.busy hf hmode hwork
      exact (h.indexEdge_completes hphase hi).trans (congrArg Host.Outcome.next hends)
    · have hends := s.enterIdle_homed (s.setDrive { s.drive with home := true }) a ha h.busy hf hmode hwork
      exact (h.approach_completes hphase hi hx).trans (congrArg Host.Outcome.next hends)
  · exact ⟨_, h.approach_completes hphase hi hx, State.completeHoming_settles s
      (s.setDrive { s.drive with home := true }) a ha hk hs h.busy hf hon hwindow hwork _ rfl⟩
  · intro drive next
    refine ⟨fun haway hw ht => ?_, fun haway => h.seek_fails hphase hl haway⟩
    exact (h.seek_leaves hphase hl haway hw ht).trans
      (congrArg (fun x => Host.Outcome.next { s with
        drive := x
        homing := { s.homing with
          phase := next, leg := .moving, homeSeen := s.drive.home, travelUsed := s.homing.travelUsed + 1 }
        gen := s.gen.stepped s.cfg away begun p.fs (.seekBegun p) }) (s.setLimit_drive d))
  · exact h.seek_clears r hr hw ht hphase hcount hp hslow hdir hl
  · refine ⟨h.away_sees hphase, h.away_ignores hphase, fun r hleg hx hseen hr => ⟨?_, ?_⟩,
      fun r n hleg hr hcount hn hdir hw ht => ?_⟩
    · exact h.away_counts hphase hleg hx hseen r hr
    · exact h.away_brakes hphase hleg hx hseen r hr
    · intro moved
      have hmoved : stepFrom s.gen.position s.gen.dir = moved := by
        rw [hdir]
        exact stepFrom_eq _ _
      refine ⟨fun hl => ?_, fun hl hx => ?_, fun hl hx hi hf hmode hwork => ?_⟩
      · rw [← hmoved]
        exact h.approach_fails hphase r n hr hw ht hcount hn hl
      · exact h.approach_creeps hphase r n hr hw ht hcount hn hdir hl hx
      · exact h.approach_ends hphase r n hr hw ht hcount hn hl hx hi hf hmode hwork

end Sys2Proof.Machine
